-- ==== Sys2Proof/Word.lean ====
section
/-! DEFINITION. The words of the four links: every link carries frames of 32-bit words (0.3, chapter 11). -/

namespace Sys2Proof

/-- One word of a frame: 32 bits, bit 0 the least significant (chapter 11). -/
abbrev Word := BitVec 32

/-- The tag of a command, a number the controller chooses and the part returns (section 9.1). -/
abbrev Tag := BitVec 16

/-- The code of a command (section 11.4). -/
abbrev Code := BitVec 16

end Sys2Proof
end

