-- ==== Sys2Proof/Machine/Fields.lean ====
section
/-! DEFINITION. Bit fields of words, the sample format, the frame header and the check word
(chapter 11). -/

namespace Sys2Proof.Machine

/-- The number in `n` bits of a word, from bit `lo` upward (the byte fields and halves of chapter 11). -/
def field (w : Word) (lo n : Nat) : Nat :=
  w.toNat / 2 ^ lo % 2 ^ n

/-- Bits 31-16 of a word. -/
def hi16 (w : Word) : Nat := field w 16 16

/-- Bits 15-0 of a word. -/
def lo16 (w : Word) : Nat := field w 0 16

/-- A word from its two 16-bit halves. -/
def halves (h l : Nat) : Word :=
  BitVec.ofNat 32 (h % 65536 * 65536 + l % 65536)

/-- A word from its four bytes, bits 31-24 first. -/
def bytes (b3 b2 b1 b0 : Nat) : Word :=
  BitVec.ofNat 32 (((b3 % 256 * 256 + b2 % 256) * 256 + b1 % 256) * 256 + b0 % 256)

/-- A word that carries one unsigned number. -/
def number (n : Nat) : Word := BitVec.ofNat 32 n

/-- The signed byte in bits `lo + 7` to `lo` (the next field of a descriptor record, 11.4.1). -/
def signedByte (w : Word) (lo : Nat) : Int :=
  (BitVec.ofNat 8 (field w lo 8)).toInt

/-- The byte that carries a signed number from -128 to 127. -/
def byteOfInt (i : Int) : Nat := (i % 256).toNat

/-- A sample read from a word: the signed value of bits 17-0 (R171). -/
def sampleOf (w : Word) : Int := (w.setWidth 18).toInt

/-- A sample as the part sends it: 18 bits, with bits 31-18 copies of bit 17 (R171). -/
def sampleWord (y : Int) : Word := (BitVec.ofInt 18 y).signExtend 32

/-- The header of a frame (section 11.1). -/
def header (type length sub : Nat) : Word := bytes 0xA5 type length sub

/-- A word carries the header sync byte (section 11.1). -/
def hasSync (w : Word) : Bool := field w 24 8 == 0xA5

/-- The type code of a header. -/
def headerType (w : Word) : Nat := field w 16 8

/-- The length field of a header: words of the frame, header and check word included. -/
def headerLength (w : Word) : Nat := field w 8 8

/-- Bits 7-0 of a header: sequence number, destination or class. -/
def headerSub (w : Word) : Nat := field w 0 8

/-- Type codes of section 11.1. -/
def typeSample : Nat := 1
/-- COMMAND. -/
def typeCommand : Nat := 2
/-- OUTPUT. -/
def typeOutput : Nat := 3
/-- MEASUREMENT. -/
def typeMeasurement : Nat := 4
/-- STAGE_REPORT. -/
def typeStageReport : Nat := 5
/-- IDLE. -/
def typeIdle : Nat := 6
/-- REPORT. -/
def typeReport : Nat := 7

/-- One data bit into the CRC register (R170): shift left, and exclusive-or 1021h when the register's top
bit and the data bit differed. -/
def crcBit (r : BitVec 16) (b : Bool) : BitVec 16 :=
  if r.msb != b then (r <<< 1) ^^^ 0x1021#16 else r <<< 1

/-- One word into the CRC register, most significant bit first (R170). -/
def crcWord (r : BitVec 16) (w : Word) : BitVec 16 :=
  (List.range 32).foldl (fun r i => crcBit r (w.getMsbD i)) r

/-- The CRC of a frame's words before its check word: the register starts at FFFFh and is not inverted at
the end (R170). -/
def crcOf (ws : List Word) : BitVec 16 := ws.foldl crcWord 0xFFFF#16

/-- The check word: the CRC in bits 15-0 and zero in bits 31-16 (R170). -/
def checkWord (ws : List Word) : Word := (crcOf ws).setWidth 32

/-- A frame as the part builds it: its words and the check word over them (R172). -/
def sealed (ws : List Word) : List Word := ws ++ [checkWord ws]

/-- The last word of a frame is the check word of the words before it (R133, R170). -/
def checkHolds (ws : List Word) : Bool :=
  ws.getLast? == some (checkWord ws.dropLast)

/-- The lengths section 11.1 allows for the types carried on DIN (R133). -/
def dinAllows (type length : Nat) : Bool :=
  (type == typeSample && length == 6) || (type == typeCommand && 3 ≤ length && length ≤ 255)

/-- The lengths section 11.1 allows for the types carried on UIN (R133). -/
def uinAllows (type length : Nat) : Bool :=
  (type == typeMeasurement && length == 5) ||
  (type == typeStageReport && 2 ≤ length && length ≤ 255) ||
  (type == typeIdle && length == 2)

/-- A frame that has arrived on DIN is good (R133, R170). -/
def dinGood (ws : List Word) : Bool :=
  dinAllows (headerType (ws.headD 0)) (headerLength (ws.headD 0)) && checkHolds ws

/-- A frame that has arrived on UIN is good (R133, R170). -/
def uinGood (ws : List Word) : Bool :=
  uinAllows (headerType (ws.headD 0)) (headerLength (ws.headD 0)) && checkHolds ws

/-- The words are exactly one frame as a receiver that expects a header assembles it: sync byte, and as
many words as the length field says, or the header alone where that field is 0 or 1 (R133). -/
def oneFrame (ws : List Word) : Bool :=
  match ws with
  | [] => false
  | h :: _ =>
    hasSync h && (if headerLength h < 2 then ws.length == 1 else ws.length == headerLength h)

/-- Command codes of section 11.4. -/
def codeIdentify : Code := 0x0001
/-- GET_STATUS. -/
def codeGetStatus : Code := 0x0002
/-- TAKE_FLAGS. -/
def codeTakeFlags : Code := 0x0003
/-- GET_PARAM. -/
def codeGetParam : Code := 0x0004
/-- SET_PARAM. -/
def codeSetParam : Code := 0x0005
/-- RESET_ENGINE. -/
def codeResetEngine : Code := 0x0006
/-- WRITE_DESC. -/
def codeWriteDesc : Code := 0x0010
/-- READ_DESC. -/
def codeReadDesc : Code := 0x0011
/-- ERASE_DESC. -/
def codeEraseDesc : Code := 0x0012
/-- WRITE_SLOTS. -/
def codeWriteSlots : Code := 0x0018
/-- READ_SLOTS. -/
def codeReadSlots : Code := 0x0019
/-- RUN. -/
def codeRun : Code := 0x0020
/-- STEP. -/
def codeStep : Code := 0x0021
/-- HALT. -/
def codeHalt : Code := 0x0022
/-- ABORT. -/
def codeAbort : Code := 0x0023
/-- SET_CYCLE. -/
def codeSetCycle : Code := 0x0024
/-- ARM. -/
def codeArm : Code := 0x0025
/-- CLEAR_FAULT. -/
def codeClearFault : Code := 0x0026
/-- READ_CONTEXTS. -/
def codeReadContexts : Code := 0x0028
/-- SET_MARKER. -/
def codeSetMarker : Code := 0x0030
/-- READ_MARKERS. -/
def codeReadMarkers : Code := 0x0031

/-- The payload length a code requires, in words, and none for an undefined code (R151, section 11.4). A
WRITE_SLOTS payload that carries no count has no required length it could meet (R151). -/
def requiredLength (code : Code) (payload : List Word) : Option Nat :=
  if code = codeIdentify then some 0
  else if code = codeGetStatus then some 0
  else if code = codeTakeFlags then some 1
  else if code = codeGetParam then some 1
  else if code = codeSetParam then some 2
  else if code = codeResetEngine then some 0
  else if code = codeWriteDesc then some 9
  else if code = codeReadDesc then some 1
  else if code = codeEraseDesc then some 1
  else if code = codeWriteSlots then
    match payload with
    | [] => some 1
    | w :: _ => some (1 + lo16 w)
  else if code = codeReadSlots then some 1
  else if code = codeRun then some 0
  else if code = codeStep then some 0
  else if code = codeHalt then some 0
  else if code = codeAbort then some 0
  else if code = codeSetCycle then some 1
  else if code = codeArm then some 1
  else if code = codeClearFault then some 0
  else if code = codeReadContexts then some 0
  else if code = codeSetMarker then some 3
  else if code = codeReadMarkers then some 0
  else none

end Sys2Proof.Machine
end

