-- ==== Sys2Proof/Syntax.lean ====
section
/-! DEFINITION. The commands of the block: one constructor for every row of spec/opcode_table.json. -/

namespace Sys2Proof

/-- The three phases (0.12). -/
inductive Phase where
  | a
  | b
  | c
  deriving DecidableEq, Repr

/-- The level of a line such as SYNC_IN (R118, R127). -/
inductive Level where
  | low
  | high
  deriving DecidableEq, Repr

/-- One step of the part, as the table lists them. A frame row carries the words the receiver gets
(R133); an engine command carries its tag and its payload words (R171); an event of one context carries
the descriptor index of the context (R62). -/
inductive Instr where
  /-- POWER_ON_RESET (R132). -/
  | powerOnReset
  /-- SAMPLE_FRAME (R135): words arriving on DIN. -/
  | sampleFrame (words : List Word)
  /-- COMMAND_FRAME (R137): words arriving on DIN. -/
  | commandFrame (words : List Word)
  /-- SELF_GENERATED_FRAME (R140). -/
  | selfGeneratedFrame
  /-- DOWNSTREAM_LINK_LOSS (R139). -/
  | downstreamLinkLoss
  /-- DOUT_FRAME_SENT (R136). -/
  | doutFrameSent
  /-- MEASUREMENT_FRAME (R110): words arriving on UIN. -/
  | measurementFrame (words : List Word)
  /-- STAGE_REPORT_FRAME (R142): words arriving on UIN. -/
  | stageReportFrame (words : List Word)
  /-- IDLE_FRAME (R142): words arriving on UIN. -/
  | idleFrame (words : List Word)
  /-- UPSTREAM_LINK_LOSS (R143). -/
  | upstreamLinkLoss
  /-- UPSTREAM_CADENCE_EXPIRY (R143). -/
  | upstreamCadenceExpiry
  /-- UOUT_FRAME_SENT (R142). -/
  | uoutFrameSent
  /-- SYNC_IN_EDGE (R127). -/
  | syncInEdge
  /-- PULSE_END (R122). -/
  | pulseEnd
  /-- TRIP (R111) of one phase. -/
  | trip (phase : Phase)
  /-- LATE_START (R66) of the context armed from a descriptor index. -/
  | lateStart (index : Nat)
  /-- GAP_END (R74). -/
  | gapEnd (index : Nat)
  /-- RAMP_IN_END (R68). -/
  | rampInEnd (index : Nat)
  /-- RAMP_OUT_END (R69). -/
  | rampOutEnd (index : Nat)
  /-- FLICKER_HALF_CHANGE (R71). -/
  | flickerHalfChange (index : Nat)
  /-- MUTE_RAMP_END (R105). -/
  | muteRampEnd
  /-- UNMUTE_RAMP_END (R105). -/
  | unmuteRampEnd
  /-- HELD_RESPONSE_PLACED (R149). -/
  | heldResponsePlaced
  /-- IDENTIFY (R153). -/
  | identify (tag : Tag) (payload : List Word)
  /-- GET_STATUS (R155). -/
  | getStatus (tag : Tag) (payload : List Word)
  /-- TAKE_FLAGS (R156). -/
  | takeFlags (tag : Tag) (payload : List Word)
  /-- GET_PARAM (R158). -/
  | getParam (tag : Tag) (payload : List Word)
  /-- SET_PARAM (R159). -/
  | setParam (tag : Tag) (payload : List Word)
  /-- SET_PLAN_BASE (R34): SET_PARAM of parameter 9. -/
  | setPlanBase (tag : Tag) (value : Word)
  /-- SET_TRIP_ACTION (R116): SET_PARAM of parameter 14. -/
  | setTripAction (tag : Tag) (value : Word)
  /-- SET_FOLD_FLOOR (R115): SET_PARAM of parameter 16. -/
  | setFoldFloor (tag : Tag) (value : Word)
  /-- RESET_ENGINE (R160). -/
  | resetEngine (tag : Tag) (payload : List Word)
  /-- WRITE_DESC (R26). -/
  | writeDesc (tag : Tag) (payload : List Word)
  /-- READ_DESC (R29). -/
  | readDesc (tag : Tag) (payload : List Word)
  /-- ERASE_DESC (R30). -/
  | eraseDesc (tag : Tag) (payload : List Word)
  /-- WRITE_SLOTS (R39). -/
  | writeSlots (tag : Tag) (payload : List Word)
  /-- READ_SLOTS (R40). -/
  | readSlots (tag : Tag) (payload : List Word)
  /-- RUN (R43). -/
  | run (tag : Tag) (payload : List Word)
  /-- STEP (R44). -/
  | stepSlot (tag : Tag) (payload : List Word)
  /-- HALT (R45). -/
  | halt (tag : Tag) (payload : List Word)
  /-- ABORT (R46). -/
  | abort (tag : Tag) (payload : List Word)
  /-- CLEAR_FAULT (R47). -/
  | clearFault (tag : Tag) (payload : List Word)
  /-- SET_CYCLE (R13). -/
  | setCycle (tag : Tag) (payload : List Word)
  /-- ARM (R57). -/
  | arm (tag : Tag) (payload : List Word)
  /-- READ_CONTEXTS (R82). -/
  | readContexts (tag : Tag) (payload : List Word)
  /-- SET_MARKER (R125). -/
  | setMarker (tag : Tag) (payload : List Word)
  /-- READ_MARKERS (R126). -/
  | readMarkers (tag : Tag) (payload : List Word)
  /-- UNDEFINED_COMMAND_CODE (R151). -/
  | undefinedCommandCode (code : Code) (tag : Tag) (payload : List Word)
  /-- MICROSECOND_TICK (R127): the level is that of SYNC_IN on the tick. -/
  | microsecondTick (syncIn : Level)
  /-- FAILING_UIN_FRAME (R133): words arriving on UIN. -/
  | failingUinFrame (words : List Word)
  deriving DecidableEq, Repr

end Sys2Proof
end

