-- ==== Sys2Proof/WellFormed.lean ====
section
/-! DEFINITION. Which commands spell their row: the words of a frame row are one whole frame of that row,
an index is one of the Descriptor Table, a payload fits a COMMAND frame. The machine takes ill-formed
commands too (a receiver takes whatever words come, R133). -/

namespace Sys2Proof

/-- The words are one whole frame whose header names the given type. -/
def wholeFrameOf (type : Nat) (words : List Word) : Bool :=
  Machine.oneFrame words && Machine.headerType (words.headD 0) == type

/-- The words are one whole frame that the DSR counts as a SAMPLE frame, good or failing: any header code
but COMMAND (R133). -/
def wholeSampleFrame (words : List Word) : Bool :=
  Machine.oneFrame words && Machine.headerType (words.headD 0) != Machine.typeCommand

/-- The words are one whole frame that is none of the three types of UIN, or whose length field is out of
the range of all types (R133). -/
def wholeFailingUinFrame (words : List Word) : Bool :=
  Machine.oneFrame words &&
    (!(Machine.headerType (words.headD 0) == Machine.typeMeasurement ||
       Machine.headerType (words.headD 0) == Machine.typeStageReport ||
       Machine.headerType (words.headD 0) == Machine.typeIdle) ||
     Machine.headerLength (words.headD 0) < 2)

/-- A payload fits a COMMAND frame of at most 255 words: header, command word and check word beside it
(section 11.1, R171). -/
def payloadFits (payload : List Word) : Bool := payload.length ≤ 252

/-- A descriptor index (R16). -/
def indexFits (index : Nat) : Bool := index < 256

/-- The command spells its row. -/
def WellFormed (i : Instr) : Bool :=
  match i with
  | .powerOnReset => true
  | .sampleFrame words => wholeSampleFrame words
  | .commandFrame words => wholeFrameOf Machine.typeCommand words
  | .selfGeneratedFrame => true
  | .downstreamLinkLoss => true
  | .doutFrameSent => true
  | .measurementFrame words => wholeFrameOf Machine.typeMeasurement words
  | .stageReportFrame words => wholeFrameOf Machine.typeStageReport words
  | .idleFrame words => wholeFrameOf Machine.typeIdle words
  | .upstreamLinkLoss => true
  | .upstreamCadenceExpiry => true
  | .uoutFrameSent => true
  | .syncInEdge => true
  | .pulseEnd => true
  | .trip _ => true
  | .lateStart index => indexFits index
  | .gapEnd index => indexFits index
  | .rampInEnd index => indexFits index
  | .rampOutEnd index => indexFits index
  | .flickerHalfChange index => indexFits index
  | .muteRampEnd => true
  | .unmuteRampEnd => true
  | .heldResponsePlaced => true
  | .identify _ payload => payloadFits payload
  | .getStatus _ payload => payloadFits payload
  | .takeFlags _ payload => payloadFits payload
  | .getParam _ payload => payloadFits payload
  | .setParam _ payload => payloadFits payload
  | .setPlanBase _ _ => true
  | .setTripAction _ _ => true
  | .setFoldFloor _ _ => true
  | .resetEngine _ payload => payloadFits payload
  | .writeDesc _ payload => payloadFits payload
  | .readDesc _ payload => payloadFits payload
  | .eraseDesc _ payload => payloadFits payload
  | .writeSlots _ payload => payloadFits payload
  | .readSlots _ payload => payloadFits payload
  | .run _ payload => payloadFits payload
  | .stepSlot _ payload => payloadFits payload
  | .halt _ payload => payloadFits payload
  | .abort _ payload => payloadFits payload
  | .clearFault _ payload => payloadFits payload
  | .setCycle _ payload => payloadFits payload
  | .arm _ payload => payloadFits payload
  | .readContexts _ payload => payloadFits payload
  | .setMarker _ payload => payloadFits payload
  | .readMarkers _ payload => payloadFits payload
  | .undefinedCommandCode code _ payload =>
    (Machine.requiredLength code payload).isNone && payloadFits payload
  | .microsecondTick _ => true
  | .failingUinFrame words => wholeFailingUinFrame words

end Sys2Proof
end

