-- ==== Sys2Proof/Config.lean ====
section
/-! DEFINITION. What is fixed in the part, and the one thing the manual leaves open: orders. -/

namespace Sys2Proof.Config

/-- The order of parts of one step that the manual does not fix ("either may be taken first": R58, R76,
R79, R121, R122, R123, R142, R149, R161). The n-th open order the machine meets is decided by
`freeChoice n`. It has no body: every statement holds for every choice (log 6 to 10, 16, 22). -/
opaque freeChoice : Nat → Nat

/-- Full turn of an angle: 65536 counts (0.10). -/
def turn : Nat := 65536

/-- Unity of a gain (0.10). -/
def unity : Nat := 16384

/-- Largest gain (0.10). -/
def gainTop : Nat := 65535

/-- Contexts the active set can hold (R61, R153). -/
def contextCapacity : Nat := 8

/-- Entries of the Descriptor Table (R16, R153). -/
def descriptorCapacity : Nat := 256

/-- Slots of the Cycle Ring (R37, R153). -/
def ringCapacity : Nat := 512

/-- Reports the Report Queue can hold (R162). -/
def reportCapacity : Nat := 8

/-- Notices among the reports of the queue (R162, R163). -/
def noticeCapacity : Nat := 6

/-- Commands the Command Buffer can hold (R146). -/
def bufferCapacity : Nat := 2

/-- OUTPUT frames that may wait for DOUT (R136). -/
def doutCapacity : Nat := 8

/-- Words that may wait for UOUT (R142). -/
def uoutWords : Nat := 512

/-- Entries a walk may visit (R51). -/
def walkLimit : Nat := 16

/-- Ticks without a good frame after which a link is LOST (R139, R143). -/
def linkTicks : Nat := 160

/-- Ticks of the self-frame timer and of the upstream cadence timer (R140, R143). -/
def cadenceTicks : Nat := 20

/-- Frames of a mute or unmute ramp (R105). -/
def muteFrames : Nat := 32

end Sys2Proof.Config
end

