-- ==== Sys2Proof/Machine/State.lean ====
section
/-! DEFINITION. The state of the block, as plain data: every register, table, queue, counter and mode the
spec gives each of the twelve blocks, the free-choice counter and the queue of waiting commands. -/

namespace Sys2Proof.Machine

/-- One value for each phase (0.12). -/
structure PerPhase (α : Type) where
  a : α
  b : α
  c : α
  deriving DecidableEq, Repr

/-- The value of one phase. -/
def PerPhase.get {α : Type} (x : PerPhase α) (p : Phase) : α :=
  match p with
  | .a => x.a
  | .b => x.b
  | .c => x.c

/-- The values with that of one phase replaced. -/
def PerPhase.set {α : Type} (x : PerPhase α) (p : Phase) (v : α) : PerPhase α :=
  match p with
  | .a => { x with a := v }
  | .b => { x with b := v }
  | .c => { x with c := v }

/-- The same function on each phase's value. -/
def PerPhase.map {α β : Type} (f : α → β) (x : PerPhase α) : PerPhase β :=
  ⟨f x.a, f x.b, f x.c⟩

/-- A value for each phase from a function of the phase. -/
def PerPhase.of {α : Type} (f : Phase → α) : PerPhase α := ⟨f .a, f .b, f .c⟩

/-! ### Angle Tracker -/

/-- State of the Angle Tracker (R1). -/
structure Ant where
  /-- previous angle, absent until the first good SAMPLE frame -/
  thetaP : Option Nat
  /-- step of the most recent good SAMPLE frame -/
  lastStep : Nat
  /-- number of boundary frames, wrapping -/
  cycle : Nat
  /-- start angle of the crossing window of the present frame -/
  start : Nat
  /-- step of the crossing window of the present frame -/
  step : Nat
  deriving DecidableEq, Repr

/-! ### Descriptor Table and Cycle Ring -/

/-- Kinds of descriptor (R17). -/
inductive Kind where
  | level
  | openCircuit
  | harmonic
  | tone
  | flicker
  deriving DecidableEq, Repr

/-- When a link is followed (R23). -/
inductive NextMode where
  | after
  | together
  deriving DecidableEq, Repr

/-- Which notices contexts of a descriptor raise (R24). -/
inductive Notify where
  | off
  | start
  | finish
  | both
  deriving DecidableEq, Repr

/-- The fields of a VALID descriptor (R18). A field absent for the kind holds 0. -/
structure Desc where
  kind : Kind
  /-- bit 0 phase A, bit 1 phase B, bit 2 phase C -/
  phases : BitVec 3
  /-- start angle -/
  alpha : Nat
  /-- end angle -/
  beta : Nat
  /-- hold cycles H -/
  hold : Nat
  rampIn : Nat
  rampOut : Nat
  /-- target gain, amplitude or depth, by kind -/
  level : Nat
  order : Nat
  phi : Nat
  freq : Nat
  half : Nat
  /-- lives, 0 for continuous -/
  repeats : Nat
  gap : Nat
  /-- link, -128 to 127, 0 for none -/
  next : Int
  nextMode : NextMode
  notify : Notify
  locked : Bool
  deriving DecidableEq, Repr

/-- Persistence of an occupied slot (R37). -/
inductive Persistence where
  | once
  | every
  deriving DecidableEq, Repr

/-- Content of an occupied slot (R37). -/
structure Slot where
  offset : Nat
  persistence : Persistence
  deriving DecidableEq, Repr

/-! ### Scheduler -/

/-- Scheduler states (R42). -/
inductive SchedState where
  | halted
  | running
  | stepping
  | faulted
  deriving DecidableEq, Repr

/-- Fault kinds with the field each carries (R50). -/
inductive FaultCause where
  /-- the index of the EMPTY entry the walk reached -/
  | emptyDesc (index : Nat)
  /-- the head index of the walk -/
  | chainLong (head : Nat)
  | trip (phase : Phase)
  | linkDown
  | linkUpLost
  deriving DecidableEq, Repr

/-- A filled fault record (R50). -/
structure FaultRecord where
  cause : FaultCause
  cycle : Nat
  angle : Nat
  deriving DecidableEq, Repr

/-- State of the Scheduler (R34, R42, R50). -/
structure Sch where
  state : SchedState
  planBase : Nat
  pendingBase : Option Nat
  fault : Option FaultRecord
  deriving DecidableEq, Repr

/-! ### Context Engine -/

/-- What caused an arming (R53). -/
inductive ArmSource where
  | ring
  | chain
  | sync
  | command
  deriving DecidableEq, Repr

/-- Life states of a context (R62). -/
inductive Life where
  | wait
  | rampIn
  | hold
  | rampOut
  | gap
  deriving DecidableEq, Repr

/-- Halves of the rectangular modulation (R71). -/
inductive Half where
  | low
  | high
  deriving DecidableEq, Repr

/-- Ending marks (R76). -/
inductive EndMark where
  | none
  | halt
  | abort
  deriving DecidableEq, Repr

/-- One context of the active set (R62). -/
structure Ctx where
  index : Nat
  snap : Desc
  activation : Nat
  source : ArmSource
  firstFrame : Bool
  life : Life
  stepCount : Nat
  bounds : Nat
  lives : Nat
  value : Nat
  rampStart : Nat
  flickHalf : Half
  flickCount : Nat
  tone : Nat
  mark : EndMark
  deriving DecidableEq, Repr

/-- State of the Context Engine (R61). -/
structure Cx where
  /-- the active set, in the order of arming -/
  set : List Ctx
  /-- activation number counter -/
  activation : Nat
  deriving DecidableEq, Repr

/-! ### Sample Arithmetic Unit, Limit and Mute Unit, Current Watch -/

/-- State of the Sample Arithmetic Unit beside its parameters (R84). -/
structure Sau where
  xHold : PerPhase Int
  deriving DecidableEq, Repr

/-- Mute states (R105). -/
inductive Mute where
  | unmuted
  | muting
  | muted
  | unmuting
  deriving DecidableEq, Repr

/-- State of the Limit and Mute Unit beside its parameters (R99). -/
structure Lmu where
  yPrev : PerPhase Int
  mute : Mute
  /-- mute factor M: the value given for the last frame computed -/
  factor : Nat
  rampStart : Nat
  rampStep : Nat
  deriving DecidableEq, Repr

/-- One phase of the Current Watch (R109). -/
structure CwPhase where
  overs : Nat
  tripped : Bool
  fold : Nat
  deriving DecidableEq, Repr

/-! ### Marker Unit -/

/-- Marker states (R119). -/
inductive MarkerState where
  | disabled
  | armed
  | spent
  deriving DecidableEq, Repr

/-- Marker conditions with their arguments (R119). -/
inductive MarkerCond where
  | none
  | cycle (v : Nat)
  | descStart (d : Nat)
  | descEnd (d : Nat)
  /-- phases mask: bit 0 A, bit 1 B, bit 2 C -/
  | clip (mask : BitVec 3)
  | trip
  | sync
  deriving DecidableEq, Repr

/-- Marker modes (R119). -/
inductive MarkerMode where
  | once
  | every
  deriving DecidableEq, Repr

/-- One marker (R119). -/
structure Marker where
  state : MarkerState
  cond : MarkerCond
  /-- bit 0 PULSE, bit 1 STOP, bit 2 NOTICE -/
  actions : BitVec 3
  mode : MarkerMode
  width : Nat
  deriving DecidableEq, Repr

/-- The four markers (R118). -/
structure Markers where
  m0 : Marker
  m1 : Marker
  m2 : Marker
  m3 : Marker
  deriving DecidableEq, Repr

/-- State of the Marker Unit beside its parameters (R118). -/
structure Mku where
  markers : Markers
  /-- pulse remaining, in ticks -/
  pulse : Nat
  /-- qualified SYNC_IN level -/
  syncLevel : Level
  /-- qualification count -/
  syncCount : Nat
  deriving DecidableEq, Repr

/-! ### Links -/

/-- A link state; LOST says whether the loss was declared (R132). -/
inductive Link where
  | up
  | lost (declared : Bool)
  deriving DecidableEq, Repr

/-- Frame assembly state of a receiver (R132, R133). -/
inductive Assembly where
  | header
  /-- the words received so far, header first -/
  | collecting (got : List Word)
  deriving DecidableEq, Repr

/-- An OUTPUT frame with the forwarded frame that follows it, if any (R136). -/
structure DoutEntry where
  output : List Word
  forward : Option (List Word)
  deriving DecidableEq, Repr

/-- What DOUT is sending (R136, R138). -/
inductive DoutSending where
  | nothing
  /-- an OUTPUT frame, its forwarded frame still to follow -/
  | output (entry : DoutEntry)
  /-- the forwarded frame that follows its OUTPUT frame -/
  | forwarded (words : List Word)
  deriving DecidableEq, Repr

/-- State of the Downstream Receiver (R132). -/
structure Dsr where
  link : Link
  timer : Option Nat
  selfTimer : Option Nat
  expected : Option Nat
  control : BitVec 8
  outSeq : Nat
  slot : Option (List Word)
  /-- the stored frame has been handed to DOUT behind an OUTPUT frame and waits for its sending -/
  slotHanded : Bool
  din : Assembly
  sending : DoutSending
  outList : List DoutEntry
  deriving DecidableEq, Repr

/-- State of the upstream merge (R132). -/
structure Up where
  link : Link
  timer : Option Nat
  cadence : Option Nat
  uin : Assembly
  sending : Option (List Word)
  outList : List (List Word)
  deriving DecidableEq, Repr

/-! ### Command channel and reports -/

/-- An accepted engine command (section 9.1). -/
structure Cmd where
  code : Code
  tag : Tag
  payload : List Word
  deriving DecidableEq, Repr

/-- A REPORT frame in the queue, word for word as built, and whether it is a notice (R162, R172). -/
structure Report where
  notice : Bool
  words : List Word
  deriving DecidableEq, Repr

/-- The executor (R147). -/
inductive Executor where
  | idle
  | executing (cmd : Cmd)
  | holding (response : Report)
  deriving DecidableEq, Repr

/-- State of the Command Buffer and executor (R146, R147). -/
structure Cmx where
  buffer : List Cmd
  exec : Executor
  deriving DecidableEq, Repr

/-- State of the Report Queue (R162). -/
structure Rpq where
  queue : List Report
  lost : Bool
  deriving DecidableEq, Repr

/-! ### Parameters -/

/-- TRIP_ACTION (R109). -/
inductive TripAction where
  | notify
  | foldback
  | safe
  deriving DecidableEq, Repr

/-- SYNC_EDGE (R129). -/
inductive SyncEdge where
  | rising
  | falling
  | both
  deriving DecidableEq, Repr

/-- The parameters of R157; PLAN_BASE is the Scheduler's plan base (R34). -/
structure Params where
  peak : PerPhase Nat
  slew : PerPhase Nat
  offset : PerPhase Nat
  ilim : PerPhase Nat
  tripQual : Nat
  tripAction : TripAction
  foldStep : Nat
  foldFloor : Nat
  syncQual : Nat
  syncEdge : SyncEdge
  /-- none is NONE -/
  syncOffset : Option Nat
  /-- bits of 11.4.2: 0 CTX_START up to 7 LINK -/
  notifyMask : BitVec 8
  deriving DecidableEq, Repr

/-! ### The whole -/

/-- The state of the block. -/
structure State where
  ant : Ant
  /-- Descriptor Table: the VALID entries by rising index; an index not listed is EMPTY (R16) -/
  edt : List (Nat × Desc)
  /-- Cycle Ring: the occupied slots by rising index; an index not listed is EMPTY (R37) -/
  ring : List (Nat × Slot)
  sch : Sch
  cx : Cx
  sau : Sau
  lmu : Lmu
  cw : PerPhase CwPhase
  mku : Mku
  dsr : Dsr
  up : Up
  cmx : Cmx
  rpq : Rpq
  par : Params
  /-- the sticky flags by their bits in 11.4.2 (R168) -/
  flags : BitVec 23
  /-- the MODEL's own: how many open orders have been decided (log 11) -/
  freeCount : Nat
  /-- the MODEL's own: the commands that wait, first in first out -/
  pending : List Instr
  deriving DecidableEq, Repr

/-- Why the block stops with a fault: it never does. Every fault the spec describes is a state of the
part that goes on (R48, R56, R111, R139, R143). Nobody raises one; safe. -/
inductive Fault where
  deriving DecidableEq, Repr

/-- Why a command has no meaning. -/
inductive Refusal where
  /-- raised by exec alone, for a command that has no meaning in the model yet; safe -/
  | notModelled (mnemonic : String)
  deriving DecidableEq, Repr

/-- A marker after power-on reset, and a marker that SET_MARKER has disabled: condition NONE, no actions,
mode ONCE, width 0 (R118, R119). -/
def Marker.disabledMarker : Marker :=
  { state := .disabled, cond := .none, actions := 0, mode := .once, width := 0 }

/-- The parameters after power-on reset (R157). -/
def Params.powerOn : Params :=
  { peak := ⟨131071, 131071, 131071⟩
    slew := ⟨262143, 262143, 262143⟩
    offset := ⟨0, 43691, 21845⟩
    ilim := ⟨131071, 131071, 131071⟩
    tripQual := 8
    tripAction := .notify
    foldStep := 64
    foldFloor := 4096
    syncQual := 10
    syncEdge := .rising
    syncOffset := none
    notifyMask := 255 }

/-- One phase of the Current Watch at rest (R109). -/
def CwPhase.rest : CwPhase := { overs := 0, tripped := false, fold := 16384 }

/-- The machine right after power-on reset: R1, R16, R36, R37, R59, R61, R84, R99, R109, R118, R132, R152,
R154, R157, R162. The free-choice counter's 0 is the model's (log 11). -/
def State.reset : State :=
  { ant := { thetaP := none, lastStep := 0, cycle := 0, start := 0, step := 0 }
    edt := []
    ring := []
    sch := { state := .halted, planBase := 0, pendingBase := none, fault := none }
    cx := { set := [], activation := 0 }
    sau := { xHold := ⟨0, 0, 0⟩ }
    lmu := { yPrev := ⟨0, 0, 0⟩, mute := .unmuted, factor := 16384, rampStart := 16384, rampStep := 0 }
    cw := ⟨CwPhase.rest, CwPhase.rest, CwPhase.rest⟩
    mku :=
      { markers := ⟨Marker.disabledMarker, Marker.disabledMarker, Marker.disabledMarker, Marker.disabledMarker⟩
        pulse := 0
        syncLevel := .low
        syncCount := 0 }
    dsr :=
      { link := .lost false
        timer := none
        selfTimer := some 20
        expected := none
        control := 0
        outSeq := 0
        slot := none
        slotHanded := false
        din := .header
        sending := .nothing
        outList := [] }
    up :=
      { link := .lost false
        timer := none
        cadence := some 20
        uin := .header
        sending := none
        outList := [] }
    cmx := { buffer := [], exec := .idle }
    rpq := { queue := [], lost := false }
    par := Params.powerOn
    flags := 0
    freeCount := 0
    pending := [] }

end Sys2Proof.Machine
end

