-- ==== Sys2Proof/Machine/Flags.lean ====
section
/-! DEFINITION. The 23 sticky flags: their bits, setting one, clearing a set of them (R154, R156, R168,
section 11.4.2). -/

namespace Sys2Proof.Machine

/-- The sticky flags (R168). -/
inductive Flag where
  | clip (p : Phase)
  | slew (p : Phase)
  | gainSat
  | sumSat
  | sampleCheck
  | measCheck
  | seqGap
  | angleReverse
  | startLate
  | cmdCheck
  | cmdOverrun
  | fwdOverrun
  | noticeLost
  | protect
  | armSkipped
  | syncIgnored
  | trip (p : Phase)
  deriving DecidableEq, Repr

/-- The place of a phase in a group of three bits: A, B, C (section 11.4.2). -/
def phaseBit (p : Phase) : Nat :=
  match p with
  | .a => 0
  | .b => 1
  | .c => 2

/-- The bit of a sticky flag (section 11.4.2). -/
def flagBit (f : Flag) : Nat :=
  match f with
  | .clip p => phaseBit p
  | .slew p => 3 + phaseBit p
  | .gainSat => 6
  | .sumSat => 7
  | .sampleCheck => 8
  | .measCheck => 9
  | .seqGap => 10
  | .angleReverse => 11
  | .startLate => 12
  | .cmdCheck => 13
  | .cmdOverrun => 14
  | .fwdOverrun => 15
  | .noticeLost => 16
  | .protect => 17
  | .armSkipped => 18
  | .syncIgnored => 19
  | .trip p => 20 + phaseBit p

/-- The word with one flag's bit alone. -/
def flagMask (f : Flag) : BitVec 23 := BitVec.ofNat 23 (2 ^ flagBit f)

/-- A flag is set. -/
def flagIsSet (flags : BitVec 23) (f : Flag) : Bool := flags.getLsbD (flagBit f)

/-- The flags with one set; setting a set flag changes nothing (R154). -/
def flagsWith (flags : BitVec 23) (f : Flag) : BitVec 23 := flags ||| flagMask f

/-- The flags with those of a mask cleared (R156). -/
def flagsWithout (flags mask : BitVec 23) : BitVec 23 := flags &&& ~~~mask

/-- The flags that a group of three phases names, where `act` says so (CLIP, SLEW, TRIP). -/
def flagsOfPhases (act : PerPhase Bool) (flag : Phase → Flag) (flags : BitVec 23) : BitVec 23 :=
  let f0 := if act.a then flagsWith flags (flag .a) else flags
  let f1 := if act.b then flagsWith f0 (flag .b) else f0
  if act.c then flagsWith f1 (flag .c) else f1

end Sys2Proof.Machine
end

