-- ==== Sys2Proof/Machine/Operands.lean ====
section
/-! DEFINITION. The operand forms: reading and building the records, payloads, commands and frames of
chapter 11. -/

namespace Sys2Proof.Machine

/-! ### Codes of section 11.4.2 -/

/-- Statuses of a response (R150). -/
inductive Status where
  | ok
  | okClamped
  | badCode
  | badLength
  | badIndex
  | badField
  | busy
  | protect
  | full
  | duplicate
  | empty
  deriving DecidableEq, Repr

/-- Status codes (section 11.4). -/
def statusCode (s : Status) : Nat :=
  match s with
  | .ok => 0
  | .okClamped => 1
  | .badCode => 2
  | .badLength => 3
  | .badIndex => 4
  | .badField => 5
  | .busy => 6
  | .protect => 7
  | .full => 8
  | .duplicate => 9
  | .empty => 10

/-- A single phase is coded as its mask bit. -/
def phaseCode (p : Phase) : Nat :=
  match p with
  | .a => 1
  | .b => 2
  | .c => 4

/-- A mask of phases names a phase. -/
def maskHas (m : BitVec 3) (p : Phase) : Bool := m.getLsbD (phaseBit p)

/-- Kind codes. -/
def kindCode (k : Kind) : Nat :=
  match k with
  | .level => 1
  | .openCircuit => 2
  | .harmonic => 3
  | .tone => 4
  | .flicker => 5

/-- The kind of a code; any other code is undefined (R27). -/
def kindOfCode (n : Nat) : Option Kind :=
  match n with
  | 1 => some .level
  | 2 => some .openCircuit
  | 3 => some .harmonic
  | 4 => some .tone
  | 5 => some .flicker
  | _ => none

/-- Next mode codes. -/
def nextModeCode (m : NextMode) : Nat :=
  match m with
  | .after => 1
  | .together => 2

/-- The next mode of a code (R27). -/
def nextModeOfCode (n : Nat) : Option NextMode :=
  match n with
  | 1 => some .after
  | 2 => some .together
  | _ => none

/-- Notify codes. -/
def notifyCode (n : Notify) : Nat :=
  match n with
  | .off => 0
  | .start => 1
  | .finish => 2
  | .both => 3

/-- The notify field of a code (R27). -/
def notifyOfCode (n : Nat) : Option Notify :=
  match n with
  | 0 => some .off
  | 1 => some .start
  | 2 => some .finish
  | 3 => some .both
  | _ => none

/-- yes and no as codes (locked, first-frame flag, late mark). -/
def boolCode (b : Bool) : Nat := if b then 1 else 0

/-- The locked attribute of a code (R27). -/
def lockedOfCode (n : Nat) : Option Bool :=
  match n with
  | 0 => some false
  | 1 => some true
  | _ => none

/-- Scheduler state codes. -/
def schedCode (s : SchedState) : Nat :=
  match s with
  | .halted => 0
  | .running => 1
  | .stepping => 2
  | .faulted => 3

/-- Link state codes: a LOST state that was not declared is reported as LOST (R155). -/
def linkCode (l : Link) : Nat :=
  match l with
  | .up => 1
  | .lost _ => 0

/-- Mute state codes. -/
def muteCode (m : Mute) : Nat :=
  match m with
  | .unmuted => 0
  | .muting => 1
  | .muted => 2
  | .unmuting => 3

/-- Life state codes. -/
def lifeCode (l : Life) : Nat :=
  match l with
  | .wait => 0
  | .rampIn => 1
  | .hold => 2
  | .rampOut => 3
  | .gap => 4

/-- Arm source codes. -/
def sourceCode (s : ArmSource) : Nat :=
  match s with
  | .ring => 1
  | .chain => 2
  | .sync => 3
  | .command => 4

/-- Ending mark codes. -/
def markCode (m : EndMark) : Nat :=
  match m with
  | .none => 0
  | .halt => 1
  | .abort => 2

/-- Flicker half codes. -/
def halfCode (h : Half) : Nat :=
  match h with
  | .low => 0
  | .high => 1

/-- Line level codes. -/
def levelCode (l : Level) : Nat :=
  match l with
  | .low => 0
  | .high => 1

/-- Marker state codes. -/
def markerStateCode (s : MarkerState) : Nat :=
  match s with
  | .disabled => 0
  | .armed => 1
  | .spent => 2

/-- Marker mode codes. -/
def markerModeCode (m : MarkerMode) : Nat :=
  match m with
  | .once => 0
  | .every => 1

/-- TRIP_ACTION values. -/
def tripActionCode (a : TripAction) : Nat :=
  match a with
  | .notify => 0
  | .foldback => 1
  | .safe => 2

/-- The TRIP_ACTION of a value (R159). -/
def tripActionOfCode (n : Nat) : Option TripAction :=
  match n with
  | 0 => some .notify
  | 1 => some .foldback
  | 2 => some .safe
  | _ => none

/-- SYNC_EDGE values. -/
def syncEdgeCode (e : SyncEdge) : Nat :=
  match e with
  | .rising => 0
  | .falling => 1
  | .both => 2

/-- The SYNC_EDGE of a value (R159). -/
def syncEdgeOfCode (n : Nat) : Option SyncEdge :=
  match n with
  | 0 => some .rising
  | 1 => some .falling
  | 2 => some .both
  | _ => none

/-! ### Descriptor record -/

/-- The fields that the kind has are in range (R27): FLICKER depth, HARMONIC order, TONE frequency word,
FLICKER half-period. Fields absent for the kind are not tested. -/
def kindFieldsInRange (k : Kind) (level order freq half : Nat) : Bool :=
  match k with
  | .level => true
  | .openCircuit => true
  | .harmonic => 2 ≤ order && order ≤ 50
  | .tone => 1 ≤ freq && freq ≤ 2147483647
  | .flicker => level ≤ 32767 && 1 ≤ half && half ≤ 16777215

/-- The kind has ramps (R18). -/
def hasRamps (k : Kind) : Bool := k != .flicker

/-- The kind has a level field (R18). -/
def hasLevel (k : Kind) : Bool := k != .openCircuit

/-- The kind has a phase field (R18). -/
def hasPhi (k : Kind) : Bool := k == .harmonic || k == .tone

/-- The number, or 0 in a field that is absent for the kind (R18). -/
def keptIf (present : Bool) (n : Nat) : Nat := if present then n else 0

/-- A descriptor record read from its 8 words; none where a test of R27 refuses it. Fields absent for the
kind are stored as 0 (R26). -/
def readDescRecord (ws : List Word) : Option Desc :=
  let w := fun k => ws.getD k 0
  match kindOfCode (field (w 0) 24 8), nextModeOfCode (field (w 1) 24 8),
      notifyOfCode (field (w 1) 16 8), lockedOfCode (field (w 1) 8 8) with
  | some kind, some nextMode, some notify, some locked =>
    let phases := field (w 0) 16 8
    let level := hi16 (w 5)
    let order := field (w 1) 0 8
    let freq := (w 6).toNat
    let half := (w 7).toNat
    if phases == 0 || 8 ≤ phases then none
    else if kindFieldsInRange kind level order freq half then
      some
        { kind := kind
          phases := BitVec.ofNat 3 phases
          alpha := hi16 (w 2)
          beta := lo16 (w 2)
          hold := hi16 (w 3)
          gap := lo16 (w 3)
          rampIn := keptIf (hasRamps kind) (hi16 (w 4))
          rampOut := keptIf (hasRamps kind) (lo16 (w 4))
          level := keptIf (hasLevel kind) level
          phi := keptIf (hasPhi kind) (lo16 (w 5))
          order := keptIf (kind == .harmonic) order
          freq := keptIf (kind == .tone) freq
          half := keptIf (kind == .flicker) half
          repeats := field (w 0) 0 8
          next := signedByte (w 0) 8
          nextMode := nextMode
          notify := notify
          locked := locked }
    else none
  | _, _, _, _ => none

/-- A descriptor record as its 8 words (section 11.4.1). -/
def descRecord (d : Desc) : List Word :=
  [ bytes (kindCode d.kind) d.phases.toNat (byteOfInt d.next) d.repeats,
    bytes (nextModeCode d.nextMode) (notifyCode d.notify) (boolCode d.locked) d.order,
    halves d.alpha d.beta,
    halves d.hold d.gap,
    halves d.rampIn d.rampOut,
    halves d.level d.phi,
    number d.freq,
    number d.half ]

/-! ### Slot records -/

/-- A slot record read from its word: outer none where R39 refuses it, inner none for EMPTY. -/
def readSlotRecord (w : Word) : Option (Option Slot) :=
  match field w 24 8 with
  | 0 => some none
  | 1 =>
    match field w 16 8 with
    | 1 => some (some { offset := field w 0 8, persistence := .once })
    | 2 => some (some { offset := field w 0 8, persistence := .every })
    | _ => none
  | _ => none

/-- The slot records of a list of words; none where one of them is refused (R39). -/
def readSlotRecords (ws : List Word) : Option (List (Option Slot)) :=
  match ws with
  | [] => some []
  | w :: rest =>
    match readSlotRecord w, readSlotRecords rest with
    | some r, some rs => some (r :: rs)
    | _, _ => none

/-- A slot record as its word; 0 for an EMPTY slot (section 11.4.1). Bits 15-8, which no field names, are sent
as 0: DESIGN CHOICE (log 28). -/
def slotRecord (s : Option Slot) : Word :=
  match s with
  | none => bytes 0 0 0 0
  | some s => bytes 1 (match s.persistence with | .once => 1 | .every => 2) 0 s.offset

/-! ### Context, fault and marker records -/

/-- A context record, 14 words; 0 in the flicker fields and the accumulator where they are absent for the
kind (R62, R82, section 11.4.1). -/
def contextRecord (c : Ctx) : List Word :=
  let flick := c.snap.kind == .flicker
  [ bytes c.index (sourceCode c.source) (lifeCode c.life) (markCode c.mark),
    halves c.activation (c.lives % 256 * 256 + boolCode c.firstFrame),
    halves c.stepCount c.bounds,
    halves c.value c.rampStart,
    number (keptIf flick (halfCode c.flickHalf * 16777216 + c.flickCount % 16777216)),
    number (keptIf (c.snap.kind == .tone) c.tone) ] ++ descRecord c.snap

/-- Word 0 of a filled fault record: present, kind, descriptor index, phase; a field the kind does not
carry is 0 (R50, section 11.4.1). -/
def faultWord (c : FaultCause) : Word :=
  match c with
  | .emptyDesc i => bytes 1 1 i 0
  | .chainLong h => bytes 1 2 h 0
  | .trip p => bytes 1 3 0 (phaseCode p)
  | .linkDown => bytes 1 4 0 0
  | .linkUpLost => bytes 1 5 0 0

/-- A fault record, 2 words; an empty record is all zero (section 11.4.1). -/
def faultRecord (r : Option FaultRecord) : List Word :=
  match r with
  | none => [0, 0]
  | some r => [faultWord r.cause, halves r.cycle r.angle]

/-- The code of a marker condition. -/
def condCode (c : MarkerCond) : Nat :=
  match c with
  | .none => 0
  | .cycle _ => 1
  | .descStart _ => 2
  | .descEnd _ => 3
  | .clip _ => 4
  | .trip => 5
  | .sync => 6

/-- The argument of a marker condition; 0 where it is absent (R126). -/
def condArgument (c : MarkerCond) : Nat :=
  match c with
  | .none => 0
  | .cycle v => v
  | .descStart d => d
  | .descEnd d => d
  | .clip m => m.toNat
  | .trip => 0
  | .sync => 0

/-- A marker record of READ_MARKERS: state word and 2-word configuration (section 11.4.1). Bits 23-0 of the
state word, which no field names, are sent as 0: DESIGN CHOICE (log 28). -/
def markerRecord (m : Marker) : List Word :=
  [ bytes (markerStateCode m.state) 0 0 0,
    bytes (condCode m.cond) m.actions.toNat (markerModeCode m.mode) 0,
    halves (condArgument m.cond) m.width ]

/-- The answer to the condition part of a marker configuration (R125). -/
inductive CondRead where
  | ok (c : MarkerCond)
  | badField
  | badIndex
  deriving DecidableEq, Repr

/-- The condition of a marker configuration: code and argument, tested in the order of R125. -/
def readCond (code argument : Nat) : CondRead :=
  match code with
  | 0 => .ok .none
  | 1 => .ok (.cycle argument)
  | 2 => if 255 < argument then .badIndex else .ok (.descStart argument)
  | 3 => if 255 < argument then .badIndex else .ok (.descEnd argument)
  | 4 =>
    if argument == 0 || 8 ≤ argument then .badField
    else .ok (.clip (BitVec.ofNat 3 argument))
  | 5 => .ok .trip
  | 6 => .ok .sync
  | _ => .badField

/-- What SET_MARKER does with a configuration: the refusing status, or the marker it makes (R125). -/
def readMarkerConfig (w0 w1 : Word) : Except Status Marker :=
  match readCond (field w0 24 8) (hi16 w1) with
  | .badField => .error .badField
  | .badIndex => .error .badIndex
  | .ok .none => .ok Marker.disabledMarker
  | .ok cond =>
    let actions := field w0 16 8
    let width := lo16 w1
    if actions == 0 || 8 ≤ actions then .error .badField
    else if 1 < field w0 8 8 || width == 0 || 255 < width then .error .badField
    else
      .ok
        { state := .armed
          cond := cond
          actions := BitVec.ofNat 3 actions
          mode := if field w0 8 8 == 0 then .once else .every
          width := width }

/-! ### Notices -/

/-- Reasons of a skip (R52). -/
inductive SkipReason where
  | duplicate
  | setFull
  deriving DecidableEq, Repr

/-- Notices with their payloads (R166). -/
inductive Notice where
  | ctxStart (index life cycle : Nat) (late : Bool)
  | ctxEnd (index : Nat) (aborted : Bool) (cycle : Nat)
  | armSkip (index : Nat) (reason : SkipReason) (source : ArmSource)
  | fault (record : FaultRecord)
  | trip (p : Phase) (action : TripAction)
  | foldbackEnd (p : Phase)
  | limit (slew : Bool) (p : Phase) (cycle : Nat)
  | mark (marker cycle angle : Nat)
  | overrun (tag : Tag)
  | link (upstream : Bool) (up : Bool)
  deriving DecidableEq, Repr

/-- The bit of NOTIFY_MASK that names a kind; FAULT and OVERRUN have none and are always enabled (R157,
R166). -/
def noticeMaskBit (n : Notice) : Option Nat :=
  match n with
  | .ctxStart .. => some 0
  | .ctxEnd .. => some 1
  | .armSkip .. => some 2
  | .trip .. => some 3
  | .foldbackEnd .. => some 4
  | .limit .. => some 5
  | .mark .. => some 6
  | .link .. => some 7
  | .fault .. => none
  | .overrun .. => none

/-- Kind code of a notice (section 11.3). -/
def noticeCode (n : Notice) : Nat :=
  match n with
  | .ctxStart .. => 1
  | .ctxEnd .. => 2
  | .armSkip .. => 3
  | .fault .. => 4
  | .trip .. => 5
  | .foldbackEnd .. => 6
  | .limit .. => 7
  | .mark .. => 8
  | .overrun .. => 9
  | .link .. => 10

/-- Words 2 and 3 of a notice (section 11.3). Bits that no field of the kind names are sent as 0: DESIGN CHOICE
(log 28). -/
def noticePayload (n : Notice) : List Word :=
  match n with
  | .ctxStart i life cycle late => [bytes i life (boolCode late) 0, halves cycle 0]
  | .ctxEnd i aborted cycle => [bytes i (if aborted then 2 else 1) 0 0, halves cycle 0]
  | .armSkip i reason source =>
    [bytes i (match reason with | .duplicate => 1 | .setFull => 2) (sourceCode source) 0, 0]
  | .fault r => faultRecord (some r)
  | .trip p action => [bytes (phaseCode p) (tripActionCode action) 0 0, 0]
  | .foldbackEnd p => [bytes (phaseCode p) 0 0 0, 0]
  | .limit slew p cycle => [bytes (if slew then 2 else 1) (phaseCode p) 0 0, halves cycle 0]
  | .mark m cycle angle => [bytes m 0 0 0, halves cycle angle]
  | .overrun tag => [halves 0 tag.toNat, 0]
  | .link upstream up => [bytes (if upstream then 2 else 1) (boolCode up) 0 0, 0]

/-- A notice as its REPORT frame (section 11.3); LOST_BEFORE is fixed when it is built (R172). -/
def noticeFrame (n : Notice) (lostBefore : Bool) : List Word :=
  sealed ([header typeReport 5 1, bytes (noticeCode n) (boolCode lostBefore) 0 0] ++ noticePayload n)

/-- A response as its REPORT frame, 4 + n words (section 11.3). -/
def responseFrame (code : Code) (tag : Tag) (status : Status) (payload : List Word) : List Word :=
  sealed
    ([header typeReport (4 + payload.length) 0, halves code.toNat tag.toNat,
      bytes (statusCode status) 0 0 0] ++ payload)

/-! ### Frames of the sample links -/

/-- What a good SAMPLE frame carries (R171). -/
structure Sample where
  seq : Nat
  theta : Nat
  control : BitVec 8
  x : PerPhase Int
  deriving DecidableEq, Repr

/-- The fields of a good SAMPLE frame (R171, section 11.2). -/
def readSample (ws : List Word) : Sample :=
  { seq := headerSub (ws.getD 0 0)
    theta := hi16 (ws.getD 1 0)
    control := BitVec.ofNat 8 (field (ws.getD 1 0) 8 8)
    x := ⟨sampleOf (ws.getD 2 0), sampleOf (ws.getD 3 0), sampleOf (ws.getD 4 0)⟩ }

/-- The currents of a good MEASUREMENT frame (R171, section 11.2). -/
def readCurrents (ws : List Word) : PerPhase Int :=
  ⟨sampleOf (ws.getD 1 0), sampleOf (ws.getD 2 0), sampleOf (ws.getD 3 0)⟩

/-- The command of a good COMMAND frame with destination ENGINE: code and tag in the command word, the
payload in words 2 to length - 2 (R171). -/
def readCommand (ws : List Word) : Cmd :=
  { code := BitVec.ofNat 16 (hi16 (ws.getD 1 0))
    tag := BitVec.ofNat 16 (lo16 (ws.getD 1 0))
    payload := (ws.drop 2).dropLast }

/-- An OUTPUT frame (R135, section 11.2): flags bit 8 OPEN_A, 9 OPEN_B, 10 OPEN_C, 11 MUTE, 12 HELD,
13 SELF. -/
def outputFrame (seq theta : Nat) (opens : PerPhase Bool) (mute held self : Bool) (control : BitVec 8)
    (y : PerPhase Int) : List Word :=
  sealed
    [ header typeOutput 6 seq,
      halves theta
        ((boolCode opens.a + 2 * boolCode opens.b + 4 * boolCode opens.c + 8 * boolCode mute +
          16 * boolCode held + 32 * boolCode self) * 256 + control.toNat),
      sampleWord y.a, sampleWord y.b, sampleWord y.c ]

/-! ### Assembly of frames (R133) -/

/-- One word at a receiver: the new assembly state and the frame that has arrived with it, if any. -/
def assemble (a : Assembly) (w : Word) : Assembly × Option (List Word) :=
  match a with
  | .header =>
    if hasSync w then
      if headerLength w < 2 then (.header, some [w]) else (.collecting [w], none)
    else (.header, none)
  | .collecting got =>
    if headerLength (got.headD 0) ≤ got.length + 1 then (.header, some (got ++ [w]))
    else (.collecting (got ++ [w]), none)

end Sys2Proof.Machine
end

