-- ==== Sys2Proof/Machine/Ops.lean ====
section
/-! DEFINITION. The named operations the blocks share: one setter for each part of the state, the tables,
sticky flags, free choices, notices and reports, DOUT and UOUT, the Command Buffer and executor, and the
Scheduler's stop, fault and safety stop. -/

namespace Sys2Proof.Machine

/-! ### Setters -/

/-- The state with the Angle Tracker replaced. -/
def State.withAnt (s : State) (x : Ant) : State := { s with ant := x }

/-- The state with the Descriptor Table replaced. -/
def State.withEdt (s : State) (x : List (Nat × Desc)) : State := { s with edt := x }

/-- The state with the Cycle Ring replaced. -/
def State.withRing (s : State) (x : List (Nat × Slot)) : State := { s with ring := x }

/-- The state with the Scheduler replaced. -/
def State.withSch (s : State) (x : Sch) : State := { s with sch := x }

/-- The state with the Context Engine replaced. -/
def State.withCx (s : State) (x : Cx) : State := { s with cx := x }

/-- The state with the Sample Arithmetic Unit replaced. -/
def State.withSau (s : State) (x : Sau) : State := { s with sau := x }

/-- The state with the Limit and Mute Unit replaced. -/
def State.withLmu (s : State) (x : Lmu) : State := { s with lmu := x }

/-- The state with the Current Watch replaced. -/
def State.withCw (s : State) (x : PerPhase CwPhase) : State := { s with cw := x }

/-- The state with the Marker Unit replaced. -/
def State.withMku (s : State) (x : Mku) : State := { s with mku := x }

/-- The state with the Downstream Receiver replaced. -/
def State.withDsr (s : State) (x : Dsr) : State := { s with dsr := x }

/-- The state with the upstream merge replaced. -/
def State.withUp (s : State) (x : Up) : State := { s with up := x }

/-- The state with the Command Buffer and executor replaced. -/
def State.withCmx (s : State) (x : Cmx) : State := { s with cmx := x }

/-- The state with the Report Queue replaced. -/
def State.withRpq (s : State) (x : Rpq) : State := { s with rpq := x }

/-- The state with the parameters replaced. -/
def State.withPar (s : State) (x : Params) : State := { s with par := x }

/-- The state with the sticky flags replaced. -/
def State.withFlags (s : State) (x : BitVec 23) : State := { s with flags := x }

/-- The state with the free-choice counter replaced. -/
def State.withFreeCount (s : State) (x : Nat) : State := { s with freeCount := x }

/-- The state with the queue of waiting commands replaced. -/
def State.withPending (s : State) (x : List Instr) : State := { s with pending := x }

/-! ### Tables: lists of (index, content) with rising indices -/

/-- The content at an index; none is EMPTY. -/
def tableGet {α : Type} (t : List (Nat × α)) (i : Nat) : Option α :=
  match t with
  | [] => none
  | (j, x) :: rest => if j = i then some x else tableGet rest i

/-- The table with the content at an index replaced, the indices kept rising. -/
def tableSet {α : Type} (t : List (Nat × α)) (i : Nat) (v : α) : List (Nat × α) :=
  match t with
  | [] => [(i, v)]
  | (j, x) :: rest =>
    if i < j then (i, v) :: (j, x) :: rest
    else if i = j then (i, v) :: rest
    else (j, x) :: tableSet rest i v

/-- The table with an index made EMPTY. -/
def tableErase {α : Type} (t : List (Nat × α)) (i : Nat) : List (Nat × α) :=
  match t with
  | [] => []
  | (j, x) :: rest => if j = i then tableErase rest i else (j, x) :: tableErase rest i

/-- The table with an index given a content or made EMPTY. -/
def tablePut {α : Type} (t : List (Nat × α)) (i : Nat) (v : Option α) : List (Nat × α) :=
  match v with
  | some x => tableSet t i x
  | none => tableErase t i

/-- The indices rise strictly from one entry to the next. -/
def keysRise {α : Type} (t : List (Nat × α)) : Bool :=
  match t with
  | [] => true
  | [_] => true
  | (i, _) :: (j, y) :: rest => decide (i < j) && keysRise ((j, y) :: rest)

/-- The canonical form of a table of a given size: indices strictly rising and inside the table. -/
def tableWf {α : Type} (size : Nat) (t : List (Nat × α)) : Bool :=
  keysRise t && t.all (fun e => decide (e.1 < size))

/-! ### Free choices and sticky flags -/

/-- One of `n` open orders, decided by the free value of the manual (log 6 to 10, 16, 22). -/
def choose (n : Nat) (s : State) : Nat × State :=
  (Config.freeChoice s.freeCount % n, s.withFreeCount (s.freeCount + 1))

/-- One of two open orders: true for the first. -/
def chooseFirst (s : State) : Bool × State :=
  ((choose 2 s).1 == 0, (choose 2 s).2)

/-- A sticky flag is set (R154). -/
def setFlag (f : Flag) (s : State) : State := s.withFlags (flagsWith s.flags f)

/-- A sticky flag is set where a condition holds. -/
def setFlagIf (c : Bool) (f : Flag) (s : State) : State := if c then setFlag f s else s

/-! ### Reports (R162, R163) -/

/-- Notices among the reports. -/
def noticeCount (q : List Report) : Nat := (q.filter (·.notice)).length

/-- The mask lets a notice be raised (R163 step 1). -/
def maskEnables (mask : BitVec 8) (n : Notice) : Bool :=
  match noticeMaskBit n with
  | some b => mask.getLsbD b
  | none => true

/-- The queue has a place for a notice (R163 step 2). -/
def noticeFits (q : List Report) : Bool :=
  decide (noticeCount q < Config.noticeCapacity) && decide (q.length < Config.reportCapacity)

/-- A notice that is raised now would be discarded, with NOTICE_LOST set (R163 step 3). -/
def noticeDiscarded (n : Notice) (s : State) : Bool :=
  maskEnables s.par.notifyMask n && !noticeFits s.rpq.queue

/-- A notice is raised (R163): masked and nothing happens; admitted, with LOST_BEFORE if the lost mark was
set; or discarded, with NOTICE_LOST and the lost mark set. -/
def raise (n : Notice) (s : State) : State :=
  if maskEnables s.par.notifyMask n then
    if noticeFits s.rpq.queue then
      s.withRpq
        { queue := s.rpq.queue ++ [{ notice := true, words := noticeFrame n s.rpq.lost }]
          lost := false }
    else (setFlag .noticeLost s).withRpq { s.rpq with lost := true }
  else s

/-- A notice is raised where a condition holds. -/
def raiseIf (c : Bool) (n : Notice) (s : State) : State := if c then raise n s else s

/-- The notices of different events of one frame are raised in a free order (R79, R165): where more than one
waits, a free choice says which is next. The number bounds the notices raised. -/
def raiseFree (n : Nat) (ns : List Notice) (s : State) : State :=
  match n, ns with
  | 0, _ => s
  | _ + 1, [] => s
  | k + 1, [x] => raiseFree k [] (raise x s)
  | k + 1, x :: y :: rest =>
    let c := choose (rest.length + 2) s
    raiseFree k ((x :: y :: rest).eraseIdx c.1) (raise ((x :: y :: rest).getD c.1 x) c.2)

/-- All the notices of a list, in a free order. -/
def raiseAll (ns : List Notice) (s : State) : State := raiseFree ns.length ns s

/-! ### Command Buffer and executor (R146, R147, R149) -/

/-- An IDLE executor takes the oldest waiting command (R147). -/
def takeCommand (s : State) : State :=
  match s.cmx.exec, s.cmx.buffer with
  | .idle, c :: rest => s.withCmx { buffer := rest, exec := .executing c }
  | _, _ => s

/-- The Command Buffer is offered a command (R146). -/
def offerCommand (c : Cmd) (s : State) : State :=
  if s.cmx.buffer.length < Config.bufferCapacity then
    takeCommand (s.withCmx { s.cmx with buffer := s.cmx.buffer ++ [c] })
  else raise (.overrun c.tag) (setFlag .cmdOverrun s)

/-- A formed response is offered to the Report Queue: it joins the tail and the executor goes on, or the
executor becomes HOLDING (R149). -/
def offerResponse (words : List Word) (s : State) : State :=
  let r : Report := { notice := false, words := words }
  if s.rpq.queue.length < Config.reportCapacity then
    takeCommand
      ((s.withRpq { s.rpq with queue := s.rpq.queue ++ [r] }).withCmx { s.cmx with exec := .idle })
  else s.withCmx { s.cmx with exec := .holding r }

/-- A HOLDING executor has a place for its response in the queue (R149). -/
def heldHasPlace (s : State) : Bool :=
  match s.cmx.exec with
  | .holding _ => decide (s.rpq.queue.length < Config.reportCapacity)
  | _ => false

/-- A HOLDING executor places its response if the queue has a place, and takes the oldest waiting command
(R147, R149). -/
def placeHeld (s : State) : State :=
  match s.cmx.exec with
  | .holding r =>
    if s.rpq.queue.length < Config.reportCapacity then
      takeCommand
        ((s.withRpq { s.rpq with queue := s.rpq.queue ++ [r] }).withCmx { s.cmx with exec := .idle })
    else s
  | _ => s

/-! ### UOUT (R142) -/

/-- Words that wait for UOUT. -/
def waitingWords (l : List (List Word)) : Nat := (l.map List.length).sum

/-- A frame or report that is ready is sent at once if UOUT is not sending, and otherwise waits (R142). -/
def sendUp (ws : List Word) (s : State) : State :=
  match s.up.sending with
  | none => s.withUp { s.up with sending := some ws }
  | some _ => s.withUp { s.up with outList := s.up.outList ++ [ws] }

/-- A UIN frame is passed on; one that would take the list past 512 words is discarded unsent (R142). -/
def passOn (ws : List Word) (s : State) : State :=
  if s.up.sending.isSome && decide (Config.uoutWords < waitingWords s.up.outList + ws.length) then s
  else sendUp ws s

/-- A place of the queue has just become free: a HOLDING executor places its response at once, or what else
comes about in the same instant is taken first; the order is open (R148, R149, R164; log 10). -/
def placeFreed (s : State) : State :=
  match s.cmx.exec with
  | .holding _ => if (chooseFirst s).1 then placeHeld (chooseFirst s).2 else (chooseFirst s).2
  | _ => s

/-- The head report leaves the queue and is sent on UOUT, and its place is free from that moment (R142, R143,
R149, R164). -/
def sendHeadReport (s : State) : State :=
  match s.rpq.queue with
  | [] => s
  | r :: rest => placeFreed (sendUp r.words (s.withRpq { s.rpq with queue := rest }))

/-- A report waits and the UOUT transmit list is empty (R142, R143). -/
def reportMayLeave (s : State) : Bool := !s.rpq.queue.isEmpty && s.up.outList.isEmpty

/-- UOUT ends the sending of a frame: the next one starts (R142). -/
def uoutEnds (s : State) : State :=
  match s.up.sending with
  | none => s
  | some _ =>
    match s.up.outList with
    | [] => s.withUp { s.up with sending := none }
    | ws :: rest => s.withUp { s.up with sending := some ws, outList := rest }

/-! ### DOUT and the Forward Slot (R136, R138) -/

/-- The stored frame that follows the next OUTPUT frame handed to DOUT, if one is stored and has not been
handed over yet (R138). -/
def forwardDue (d : Dsr) : Option (List Word) := if d.slotHanded then none else d.slot

/-- An OUTPUT frame whose work is complete is handed to DOUT with the stored frame that follows it: sent at
once, or waiting, or discarded where 8 OUTPUT frames wait (R136, R138). -/
def handToDout (ws : List Word) (d : Dsr) : Dsr :=
  match d.sending with
  | .nothing =>
    { d with
      sending := .output { output := ws, forward := forwardDue d }
      slotHanded := d.slotHanded || d.slot.isSome }
  | _ =>
    if d.outList.length < Config.doutCapacity then
      { d with
        outList := d.outList ++ [{ output := ws, forward := forwardDue d }]
        slotHanded := d.slotHanded || d.slot.isSome }
    else d

/-- DOUT starts the next waiting OUTPUT frame, or falls silent (R136). -/
def doutNext (d : Dsr) : Dsr :=
  match d.outList with
  | [] => { d with sending := .nothing }
  | e :: rest => { d with sending := .output e, outList := rest }

/-- DOUT ends the sending of a frame: a forwarded frame directly follows its OUTPUT frame, the Forward Slot
empties when the forwarded frame has gone, and the next waiting frame starts (R136, R138). -/
def doutEnds (d : Dsr) : Dsr :=
  match d.sending with
  | .nothing => d
  | .output e =>
    match e.forward with
    | some ws => { d with sending := .forwarded ws }
    | none => doutNext d
  | .forwarded _ => doutNext { d with slot := none, slotHanded := false }

/-- A good STAGE frame is offered to the Forward Slot (R138). -/
def offerForward (ws : List Word) (s : State) : State :=
  match s.dsr.slot with
  | none => s.withDsr { s.dsr with slot := some ws, slotHanded := false }
  | some _ => setFlag .fwdOverrun s

/-! ### Scheduler: faults, stop, safety stop -/

/-- The angle as it stands: theta_p, or 0 while it is absent (R50, R120). After a frame's classification
this is the frame's theta_c (R4, R7). -/
def angleNow (s : State) : Nat := s.ant.thetaP.getD 0

/-- The record of a fault taken now (R50). -/
def faultNow (c : FaultCause) (s : State) : FaultRecord :=
  { cause := c, cycle := s.ant.cycle, angle := angleNow s }

/-- A fault: the record takes it if it is empty, and a FAULT notice carries its own details (R50, R48,
R56). -/
def reportFault (c : FaultCause) (s : State) : State :=
  raise (.fault (faultNow c s))
    (s.withSch { s.sch with fault := s.sch.fault.or (some (faultNow c s)) })

/-- A consistency fault: the scheduler becomes or stays HALTED (R56). -/
def consistencyFault (c : FaultCause) (s : State) : State :=
  reportFault c
    (s.withSch { s.sch with state := if s.sch.state = .faulted then .faulted else .halted })

/-- The mute ramp starts from the present M (R106). -/
def startMute (s : State) : State :=
  s.withLmu { s.lmu with mute := .muting, rampStart := s.lmu.factor, rampStep := 0 }

/-- The unmute ramp starts from the present M (R107). -/
def startUnmute (s : State) : State :=
  s.withLmu { s.lmu with mute := .unmuting, rampStart := s.lmu.factor, rampStep := 0 }

/-- Entry to FAULTED, or a further call while FAULTED (R48): the state, the removal of every context with
no notice, the mute ramp; the FAULT notice and the record in either case. -/
def safetyStop (c : FaultCause) (s : State) : State :=
  if s.sch.state = .faulted then reportFault c s
  else
    reportFault c
      (startMute ((s.withSch { s.sch with state := .faulted }).withCx { s.cx with set := [] }))

/-- Every context whose mark is none takes the mark HALT (R76). -/
def markHalt (set : List Ctx) : List Ctx :=
  set.map (fun c => if c.mark = .none then { c with mark := .halt } else c)

/-- HALT takes effect: the scheduler becomes HALTED and the contexts are marked (R45, R76). -/
def haltNow (s : State) : State :=
  (s.withSch { s.sch with state := .halted }).withCx { s.cx with set := markHalt s.cx.set }

/-- A marker's STOP: a HALT in RUNNING and STEPPING, nothing in HALTED and FAULTED (R123). -/
def stopNow (s : State) : State :=
  match s.sch.state with
  | .running => haltNow s
  | .stepping => haltNow s
  | .halted => s
  | .faulted => s

end Sys2Proof.Machine
end

