-- ==== Sys2Proof/Machine/Descriptors.lean ====
section
/-! DEFINITION. The descriptor commands (chapter 2): WRITE_DESC, READ_DESC, ERASE_DESC. -/

namespace Sys2Proof.Machine

/-- The scheduler runs, for the locked attribute (R25). -/
def schedulerRuns (st : SchedState) : Bool :=
  match st with
  | .running => true
  | .stepping => true
  | .halted => false
  | .faulted => false

/-- The entry is VALID and locked while the scheduler runs (R28). -/
def isProtected (s : State) (index : Nat) : Bool :=
  schedulerRuns s.sch.state &&
    (match tableGet s.edt index with
     | some d => d.locked
     | none => false)

/-- WRITE_DESC at the arrival of its completing frame (R26, R28). -/
def arriveWriteDesc (payload : List Word) (s : State) : Status × State :=
  let i := (payload.getD 0 0).toNat
  if 255 < i then (.badIndex, s)
  else if isProtected s i then (.protect, setFlag .protect s)
  else
    match readDescRecord (payload.drop 1) with
    | some d => (.ok, s.withEdt (tableSet s.edt i d))
    | none => (.badField, s)

/-- ERASE_DESC at the arrival of its completing frame (R30, R28). -/
def arriveEraseDesc (payload : List Word) (s : State) : Status × State :=
  let i := (payload.getD 0 0).toNat
  if 255 < i then (.badIndex, s)
  else if isProtected s i then (.protect, setFlag .protect s)
  else (.ok, s.withEdt (tableErase s.edt i))

/-- What READ_DESC answers for an entry (R29). -/
def descAnswer (index : Nat) (s : State) : Status × List Word :=
  match tableGet s.edt index with
  | some d => (.ok, descRecord d)
  | none => (.empty, [])

end Sys2Proof.Machine
end

