-- ==== Sys2Proof/Machine/Markers.lean ====
section
/-! DEFINITION. The Marker Unit (chapter 7): firing, the trigger timer, SET_MARKER. The sync qualifier is
in Machine/Sync.lean. -/

namespace Sys2Proof.Machine

/-- Marker number k (R118). -/
def Markers.get (m : Markers) (k : Nat) : Marker :=
  match k with
  | 0 => m.m0
  | 1 => m.m1
  | 2 => m.m2
  | _ => m.m3

/-- The markers with number k replaced; there are numbers 0 to 3 alone (R118). -/
def Markers.set (m : Markers) (k : Nat) (x : Marker) : Markers :=
  match k with
  | 0 => { m with m0 := x }
  | 1 => { m with m1 := x }
  | 2 => { m with m2 := x }
  | 3 => { m with m3 := x }
  | _ => m

/-- TRIG_OUT is high while the pulse remaining is above 0 (R122). -/
def trigOut (s : State) : Level := if 0 < s.mku.pulse then .high else .low

/-- A pulse request: the pulse remaining becomes the larger of its present value and the width (R122). -/
def requestPulse (width : Nat) (s : State) : State :=
  s.withMku { s.mku with pulse := max s.mku.pulse width }

/-- The trigger timer's share of a tick: a pulse remaining above 0 decreases by 1 (R122). -/
def pulseTick (s : State) : State := s.withMku { s.mku with pulse := s.mku.pulse - 1 }

/-- A marker that has fired: SPENT in mode ONCE (R121). -/
def afterFiring (m : Marker) : Marker :=
  match m.mode with
  | .once => { m with state := .spent }
  | .every => m

/-- Marker k fires: PULSE, STOP, NOTICE in this order, then its next state (R121). -/
def fire (k : Nat) (s : State) : State :=
  let m := s.mku.markers.get k
  let s1 := if m.actions.getLsbD 0 then requestPulse m.width s else s
  let s2 := if m.actions.getLsbD 1 then stopNow s1 else s1
  let s3 := raiseIf (m.actions.getLsbD 2) (.mark k s2.ant.cycle (angleNow s2)) s2
  s3.withMku { s3.mku with markers := s3.mku.markers.set k (afterFiring m) }

/-- Marker k is ARMED and its condition is met (R121). -/
def markerHit (hit : MarkerCond → Bool) (k : Nat) (s : State) : Bool :=
  (s.mku.markers.get k).state == .armed && hit (s.mku.markers.get k).cond

/-- Marker k fires where its condition is met. -/
def fireIfHit (hit : MarkerCond → Bool) (k : Nat) (s : State) : State :=
  if markerHit hit k s then fire k s else s

/-- One occurrence of a condition: every ARMED marker that it meets fires, in the order 0 to 3 (R121). -/
def fireMarkers (hit : MarkerCond → Bool) (s : State) : State :=
  fireIfHit hit 3 (fireIfHit hit 2 (fireIfHit hit 1 (fireIfHit hit 0 s)))

/-- Some marker is met by an occurrence. -/
def anyMarkerHit (hit : MarkerCond → Bool) (s : State) : Bool :=
  markerHit hit 0 s || markerHit hit 1 s || markerHit hit 2 s || markerHit hit 3 s

/-- CYCLE v at a boundary whose counter becomes `cycle` (R120). -/
def hitCycle (cycle : Nat) (c : MarkerCond) : Bool := c == .cycle cycle

/-- DESC_START d (R120). -/
def hitDescStart (index : Nat) (c : MarkerCond) : Bool := c == .descStart index

/-- DESC_END d (R120). -/
def hitDescEnd (index : Nat) (c : MarkerCond) : Bool := c == .descEnd index

/-- CLIP mask: the peak stage has changed the value of a phase in the mask (R120). -/
def hitClip (clipped : PerPhase Bool) (c : MarkerCond) : Bool :=
  match c with
  | .clip m => (clipped.a && maskHas m .a) || (clipped.b && maskHas m .b) || (clipped.c && maskHas m .c)
  | _ => false

/-- TRIP (R120). -/
def hitTrip (c : MarkerCond) : Bool := c == .trip

/-- SYNC (R120). -/
def hitSync (c : MarkerCond) : Bool := c == .sync

/-- SET_MARKER at the arrival of its completing frame (R125). -/
def arriveSetMarker (payload : List Word) (s : State) : Status × State :=
  let k := (payload.getD 0 0).toNat
  if 3 < k then (.badIndex, s)
  else
    match readMarkerConfig (payload.getD 1 0) (payload.getD 2 0) with
    | .error st => (st, s)
    | .ok m => (.ok, s.withMku { s.mku with markers := s.mku.markers.set k m })

/-- The payload of READ_MARKERS, 13 words (R126, section 11.4.1). Bits 15-8 of word 12, which no field names,
are sent as 0: DESIGN CHOICE (log 28). -/
def markersPayload (s : State) : List Word :=
  markerRecord s.mku.markers.m0 ++ markerRecord s.mku.markers.m1 ++
  markerRecord s.mku.markers.m2 ++ markerRecord s.mku.markers.m3 ++
  [bytes (levelCode (trigOut s)) (levelCode s.mku.syncLevel) 0 s.mku.pulse]

/-- RESET_ENGINE makes a SPENT marker ARMED (R130). -/
def rearm (m : Marker) : Marker :=
  if m.state = .spent then { m with state := .armed } else m

/-- RESET_ENGINE on the four markers (R130). -/
def rearmAll (m : Markers) : Markers := ⟨rearm m.m0, rearm m.m1, rearm m.m2, rearm m.m3⟩

end Sys2Proof.Machine
end

