-- ==== Sys2Proof/Machine/Tracker.lean ====
section
/-! DEFINITION. The Angle Tracker (chapter 1): classification of a presented frame, crossing window,
extrapolation, cycle counter; SET_CYCLE. -/

namespace Sys2Proof.Machine

/-- The class of a presented frame (R4, R5, R6). -/
inductive FrameClass where
  | establishing
  | unestablished
  | boundary
  | advance
  | reversal
  deriving DecidableEq, Repr

/-- What the tracker is shown (R2): a good SAMPLE frame with its angle and whether it finds the downstream
link LOST (R5), or a failing or self-generated frame. -/
inductive Shown where
  | good (theta : Nat) (establishing : Bool)
  | held
  deriving DecidableEq, Repr

/-- What the tracker hands on for a frame (R12): class, crossing window, theta_c, and the cycle counter
after the classification. -/
structure FrameInfo where
  cls : FrameClass
  start : Nat
  step : Nat
  theta : Nat
  cycle : Nat
  deriving DecidableEq, Repr

/-- The frame is a BOUNDARY. -/
def FrameInfo.boundary (f : FrameInfo) : Bool := f.cls == .boundary

/-- The test table of R6 on the previous and the present angle: class and step. -/
def classify (thetaP thetaC : Nat) : FrameClass × Nat :=
  if 49152 ≤ thetaP ∧ thetaC < 16384 then (.boundary, thetaC + 65536 - thetaP)
  else if thetaP ≤ thetaC then (.advance, thetaC - thetaP)
  else (.reversal, 0)

/-- The cycle counter after a frame of a class (R6, R11). -/
def cycleAfter (cls : FrameClass) (cycle : Nat) : Nat :=
  if cls = .boundary then (cycle + 1) % 65536 else cycle

/-- A frame compared with a held theta_p: class, window and the new tracker state (R6, R7). Only a good
frame sets the last step. -/
def trackFrom (thetaP thetaC : Nat) (good : Bool) (a : Ant) : FrameInfo × Ant :=
  let r := classify thetaP thetaC
  let cycle := cycleAfter r.1 a.cycle
  ({ cls := r.1, start := thetaP, step := r.2, theta := thetaC, cycle := cycle },
   { thetaP := some thetaC
     lastStep := if good then r.2 else a.lastStep
     cycle := cycle
     start := thetaP
     step := r.2 })

/-- An ESTABLISHING frame (R5). -/
def establish (theta : Nat) (a : Ant) : FrameInfo × Ant :=
  ({ cls := .establishing, start := theta, step := 0, theta := theta, cycle := a.cycle },
   { a with thetaP := some theta, lastStep := 0, start := theta, step := 0 })

/-- An UNESTABLISHED frame (R4). -/
def unestablish (a : Ant) : FrameInfo × Ant :=
  ({ cls := .unestablished, start := 0, step := 0, theta := 0, cycle := a.cycle },
   { a with start := 0, step := 0 })

/-- The tracker takes a presented frame (R2 to R7). A good frame while theta_p is absent establishes the
angle whatever the link state (log 20). -/
def track (p : Shown) (a : Ant) : FrameInfo × Ant :=
  match p, a.thetaP with
  | .good theta true, _ => establish theta a
  | .good theta false, none => establish theta a
  | .good theta false, some thetaP => trackFrom thetaP theta true a
  | .held, none => unestablish a
  | .held, some thetaP => trackFrom thetaP ((thetaP + a.lastStep) % 65536) false a

/-- The crossing test (R9): d = (angle - start) mod 65536 with 0 < d ≤ step. -/
def crosses (f : FrameInfo) (angle : Nat) : Bool :=
  let d := (angle + 65536 - f.start) % 65536
  decide (0 < d) && decide (d ≤ f.step)

/-- The Angle Tracker's share of a presented frame; a REVERSAL sets ANGLE_REVERSE (R8). -/
def trackFrame (p : Shown) (s : State) : FrameInfo × State :=
  let r := track p s.ant
  (r.1, setFlagIf (r.1.cls == .reversal) .angleReverse (s.withAnt r.2))

/-- The present frame as the held crossing window gives it, for an event of one context inside that frame
(log 25). -/
def presentFrameInfo (cls : FrameClass) (s : State) : FrameInfo :=
  { cls := cls, start := s.ant.start, step := s.ant.step, theta := angleNow s, cycle := s.ant.cycle }

/-- SET_CYCLE at the arrival of its completing frame (R13): taken in HALTED, BUSY otherwise. -/
def arriveSetCycle (payload : List Word) (s : State) : Status × State :=
  if s.sch.state = .halted then
    (.ok, s.withAnt { s.ant with cycle := lo16 (payload.getD 0 0) })
  else (.busy, s)

end Sys2Proof.Machine
end

