-- ==== Sys2Proof/Machine/Contexts.lean ====
section
/-! DEFINITION. The Context Engine (chapter 4): how one context takes a frame, ramps, flicker, ends of
lives; HALT, ABORT and removal of the active set. -/

namespace Sys2Proof.Machine

/-- The value is a gain: LEVEL, OPEN, FLICKER (R17). -/
def isGain (k : Kind) : Bool :=
  match k with
  | .level => true
  | .openCircuit => true
  | .flicker => true
  | .harmonic => false
  | .tone => false

/-- Neutral value of a kind (R17). -/
def neutral (k : Kind) : Nat := if isGain k then Config.unity else 0

/-- Target value in HOLD of the kinds other than FLICKER (R17, R62). -/
def target (d : Desc) : Nat := if d.kind = .openCircuit then 0 else d.level

/-- The two values of a FLICKER context (R71). -/
def flickerValue (d : Desc) (h : Half) : Nat :=
  match h with
  | .high => Config.unity + d.level / 2
  | .low => Config.unity - d.level / 2

/-- The other half. -/
def otherHalf (h : Half) : Half :=
  match h with
  | .high => .low
  | .low => .high

/-- Step n of a ramp of L frames from S to E, the quotient truncated toward zero (R68, R69, R105). -/
def rampValue (s e n l : Nat) : Nat :=
  ((s : Int) + Int.tdiv (((e : Int) - (s : Int)) * (n : Int)) (l : Int)).toNat

/-- A new context (R63). -/
def newContext (index : Nat) (d : Desc) (activation : Nat) (source : ArmSource) : Ctx :=
  { index := index
    snap := d
    activation := activation
    source := source
    firstFrame := source == .ring
    life := .wait
    stepCount := 0
    bounds := 0
    lives := 0
    value := neutral d.kind
    rampStart := neutral d.kind
    flickHalf := .high
    flickCount := 0
    tone := 0
    mark := .none }

/-- What comes about as a context takes a frame, beside its own new state. -/
inductive CtxEvent where
  | nothing
  /-- a life starts (R67); `late` for a late start (R66) -/
  | start (late : Bool)
  /-- a life ends on this frame (R73) -/
  | lifeEnd
  deriving DecidableEq, Repr

/-- A life starts on this frame (R67). -/
def startLife (c : Ctx) : Ctx :=
  { c with
    value := neutral c.snap.kind
    rampStart := neutral c.snap.kind
    stepCount := 0
    bounds := 0
    flickHalf := .high
    flickCount := 0
    tone := if c.snap.kind = .tone then c.snap.phi * 65536 else c.tone
    life := if c.snap.kind = .flicker ∨ c.snap.rampIn = 0 then .hold else .rampIn }

/-- The accumulator of a TONE after a frame in RAMP_IN, HOLD or RAMP_OUT (R72). -/
def toneAfter (c : Ctx) : Nat :=
  if c.snap.kind = .tone then (c.tone + c.snap.freq) % 4294967296 else c.tone

/-- WAIT with the boundary count already brought up to date: crossing, late start, or on waiting (R65,
R66). -/
def waitTests (f : FrameInfo) (c : Ctx) : Ctx × CtxEvent :=
  if crosses f c.snap.alpha then (startLife c, .start false)
  else if 2 ≤ c.bounds then (startLife c, .start true)
  else ({ c with value := neutral c.snap.kind }, .nothing)

/-- A context in WAIT takes a frame (R65). -/
def takeWait (f : FrameInfo) (c : Ctx) : Ctx × CtxEvent :=
  waitTests f { c with bounds := if f.boundary then c.bounds + 1 else c.bounds }

/-- A context in GAP takes a frame: on the boundary that completes the gap it enters WAIT with a count of 1
and goes on by the WAIT rule (R74). -/
def takeGap (f : FrameInfo) (c : Ctx) : Ctx × CtxEvent :=
  if f.boundary then
    if c.snap.gap ≤ c.bounds + 1 then waitTests f { c with life := .wait, bounds := 1 }
    else ({ c with bounds := c.bounds + 1, value := neutral c.snap.kind }, .nothing)
  else ({ c with value := neutral c.snap.kind }, .nothing)

/-- A context in RAMP_IN takes a frame (R68, R72). -/
def takeRampIn (c : Ctx) : Ctx × CtxEvent :=
  let n := c.stepCount + 1
  if c.snap.rampIn ≤ n then
    ({ c with
       value := target c.snap, life := .hold, stepCount := 0, bounds := 0, tone := toneAfter c },
     .nothing)
  else
    ({ c with
       value := rampValue c.rampStart (target c.snap) n c.snap.rampIn
       stepCount := n
       tone := toneAfter c },
     .nothing)

/-- A context in RAMP_OUT takes a frame; the life ends with the last step (R69, R72, R73). -/
def takeRampOut (c : Ctx) : Ctx × CtxEvent :=
  let n := c.stepCount + 1
  if c.snap.rampOut ≤ n then
    ({ c with value := neutral c.snap.kind, stepCount := n, tone := toneAfter c }, .lifeEnd)
  else
    ({ c with
       value := rampValue c.rampStart (neutral c.snap.kind) n c.snap.rampOut
       stepCount := n
       tone := toneAfter c },
     .nothing)

/-- The flicker half and count after a HOLD frame (R71). -/
def flickerStep (c : Ctx) : Half × Nat :=
  if c.snap.half ≤ c.flickCount + 1 then (otherHalf c.flickHalf, 0)
  else (c.flickHalf, c.flickCount + 1)

/-- The value, flicker state, boundary count and accumulator of a HOLD frame (R70, R71, R72). -/
def holdFrame (f : FrameInfo) (c : Ctx) : Ctx :=
  let bounds := if f.boundary then min (c.bounds + 1) 65535 else c.bounds
  if c.snap.kind = .flicker then
    { c with
      value := flickerValue c.snap c.flickHalf
      flickHalf := (flickerStep c).1
      flickCount := (flickerStep c).2
      bounds := bounds }
  else { c with value := target c.snap, bounds := bounds, tone := toneAfter c }

/-- A context in HOLD takes a frame: the end test, then RAMP_OUT or the end of the life (R70). -/
def takeHold (f : FrameInfo) (c : Ctx) : Ctx × CtxEvent :=
  let h := holdFrame f c
  if crosses f c.snap.beta && decide (c.snap.hold ≤ h.bounds) then
    if c.snap.kind = .flicker ∨ c.snap.rampOut = 0 then (h, .lifeEnd)
    else ({ h with life := .rampOut, rampStart := h.value, stepCount := 0 }, .nothing)
  else (h, .nothing)

/-- A context takes a frame in the life state it holds (R64). -/
def takeFrame (f : FrameInfo) (c : Ctx) : Ctx × CtxEvent :=
  match c.life with
  | .wait => takeWait f c
  | .rampIn => takeRampIn c
  | .hold => takeHold f c
  | .rampOut => takeRampOut c
  | .gap => takeGap f c

/-- A context is active on a frame that it takes in this life state (R64). -/
def isActive (l : Life) : Bool :=
  match l with
  | .wait => false
  | .rampIn => true
  | .hold => true
  | .rampOut => true
  | .gap => false

/-- What becomes of a context at the end of a life, after the lives completed count (R73). -/
inductive LifeOutcome where
  | ends (aborted : Bool)
  | goesOn (c : Ctx)
  deriving DecidableEq, Repr

/-- The lives completed count after one more life; it stops at 255 (R73). -/
def livesAfter (n : Nat) : Nat := min (n + 1) 255

/-- The decision at the end of a life (R73, R75). -/
def decideLife (c : Ctx) : LifeOutcome :=
  let lives := livesAfter c.lives
  if c.mark = .abort then .ends true
  else if c.mark = .halt then .ends false
  else if c.snap.repeats ≠ 0 ∧ lives = c.snap.repeats then .ends false
  else if 1 ≤ c.snap.gap then .goesOn { c with lives := lives, life := .gap, bounds := 0 }
  else .goesOn { c with lives := lives, life := .wait, bounds := 0 }

/-- The life number of the life in progress or about to start; 255 from 255 completed lives on (R67). -/
def lifeNumber (c : Ctx) : Nat := min (c.lives + 1) 255

/-- The notify field includes START (R24). -/
def notifiesStart (d : Desc) : Bool := d.notify == .start || d.notify == .both

/-- The notify field includes END (R24). -/
def notifiesEnd (d : Desc) : Bool := d.notify == .finish || d.notify == .both

/-- The first context of the set armed from an index; a set holds at most one (R61). -/
def findCtx (set : List Ctx) (index : Nat) : Option Ctx := set.find? (fun c => c.index == index)

/-- The set without the context of an index; the contexts behind it close up (R61). -/
def removeCtx (set : List Ctx) (index : Nat) : List Ctx := set.filter (fun c => c.index != index)

/-- The set with the context of an index replaced. -/
def replaceCtx (set : List Ctx) (index : Nat) (c' : Ctx) : List Ctx :=
  set.map (fun c => if c.index = index then c' else c)

/-- Removal of every context at once, with no notice (R78). -/
def emptySet (s : State) : State := s.withCx { s.cx with set := [] }

/-! ### HALT and ABORT -/

/-- HALT at the arrival of its completing frame (R45). -/
def arriveHalt (s : State) : Status × State :=
  if s.sch.state = .faulted then (.busy, s) else (.ok, haltNow s)

/-- What ABORT makes of a context: none where it leaves the set (R77). A context that remains takes the
mark ABORT. -/
def abortCtx (c : Ctx) : Option Ctx :=
  match c.life with
  | .wait => none
  | .gap => none
  | .rampOut => some { c with mark := .abort }
  | .rampIn =>
    if c.snap.kind = .flicker ∨ c.snap.rampOut = 0 then none
    else some { c with life := .rampOut, rampStart := c.value, stepCount := 0, mark := .abort }
  | .hold =>
    if c.snap.kind = .flicker ∨ c.snap.rampOut = 0 then none
    else some { c with life := .rampOut, rampStart := c.value, stepCount := 0, mark := .abort }

/-- The CTX_END notices of ABORT for the contexts it takes out, with the cycle counter as it stands (R77,
R81). -/
def abortNotices (set : List Ctx) (cycle : Nat) : List Notice :=
  (set.filter (fun c => (abortCtx c).isNone && notifiesEnd c.snap)).map
    (fun c => .ctxEnd c.index true cycle)

/-- ABORT at the arrival of its completing frame (R46, R77). The notices of different contexts join in a free
order (R79, R165; log 6). -/
def arriveAbort (s : State) : Status × State :=
  if s.sch.state = .faulted then (.busy, s)
  else
    (.ok,
     raiseAll (abortNotices s.cx.set s.ant.cycle)
       ((s.withSch { s.sch with state := .halted }).withCx
         { s.cx with set := s.cx.set.filterMap abortCtx }))

/-- The payload of READ_CONTEXTS: the count word, then the records in set order (R82). -/
def contextsPayload (s : State) : List Word :=
  number s.cx.set.length :: s.cx.set.flatMap contextRecord

end Sys2Proof.Machine
end

