-- ==== Sys2Proof/Machine/Scheduler.lean ====
section
/-! DEFINITION. The Scheduler and the Cycle Ring (chapter 3, section 2.10): slots, plan base, walking and
arming a chain, the scheduler commands. The ring read itself is in Machine/Work.lean. -/

namespace Sys2Proof.Machine

/-! ### Plan base (R33 to R35) -/

/-- The index an offset names under the current plan base (R33). -/
def resolveOffset (s : State) (offset : Nat) : Nat := (s.sch.planBase + offset) % 256

/-- The pending plan base becomes current at a boundary (R35). -/
def applyPendingBase (s : State) : State :=
  match s.sch.pendingBase with
  | some b => s.withSch { s.sch with planBase := b, pendingBase := none }
  | none => s

/-- A plan base is written: current at once in HALTED, pending in the other states (R34). -/
def writePlanBase (v : Nat) (s : State) : State :=
  if s.sch.state = .halted then s.withSch { s.sch with planBase := v, pendingBase := none }
  else s.withSch { s.sch with pendingBase := some v }

/-! ### Walking a chain (R22, R51) -/

/-- The index a link names (R22). -/
def linkIndex (index : Nat) (next : Int) : Nat := (((index : Int) + next) % 256).toNat

/-- The entry's WITH link is followed by a walk (R23, R51). -/
def linksWith (d : Desc) : Bool := d.next != 0 && d.nextMode == .together

/-- The entry's AFTER link is followed when its context completes (R23, R54). -/
def linksAfter (d : Desc) : Bool := d.next != 0 && d.nextMode == .after

/-- The outcome of a walk (R51). -/
inductive Walk where
  /-- the indices visited, in walk order -/
  | ok (entries : List Nat)
  /-- an EMPTY entry was visited -/
  | empty (index : Nat)
  /-- a further entry would be needed -/
  | long
  deriving DecidableEq, Repr

/-- The walk with a number of visits left (R51). -/
def walkFrom (edt : List (Nat × Desc)) (visits : Nat) (index : Nat) : Walk :=
  match visits with
  | 0 => .long
  | k + 1 =>
    match tableGet edt index with
    | none => .empty index
    | some d =>
      if linksWith d then
        match walkFrom edt k (linkIndex index d.next) with
        | .ok l => .ok (index :: l)
        | .empty i => .empty i
        | .long => .long
      else .ok [index]

/-- The walk from a head index: at most 16 entries (R51). -/
def walk (edt : List (Nat × Desc)) (head : Nat) : Walk := walkFrom edt Config.walkLimit head

/-! ### Offering the walked entries (R52) -/

/-- What an arming has done so far: entries armed, entries skipped, the first skip's reason (R57). -/
structure ArmCount where
  armed : Nat
  skipped : Nat
  firstSkip : Option SkipReason
  deriving DecidableEq, Repr

/-- Nothing armed or skipped yet. -/
def ArmCount.zero : ArmCount := { armed := 0, skipped := 0, firstSkip := none }

/-- Why an entry would be skipped, by the active set as it stands (R52). -/
def skipReason (set : List Ctx) (index : Nat) : Option SkipReason :=
  if (findCtx set index).isSome then some .duplicate
  else if Config.contextCapacity ≤ set.length then some .setFull
  else none

/-- An entry is armed: a new context at the tail, with the next activation number (R52, R63). -/
def armEntry (source : ArmSource) (index : Nat) (d : Desc) (s : State) : State :=
  let n := (s.cx.activation + 1) % 65536
  s.withCx { set := s.cx.set ++ [newContext index d n source], activation := n }

/-- A skip sets ARM_SKIPPED and raises ARM_SKIP (R52). -/
def skipEntry (source : ArmSource) (index : Nat) (reason : SkipReason) (s : State) : State :=
  raise (.armSkip index reason source) (setFlag .armSkipped s)

/-- One walked entry is offered to the Context Engine (R52). -/
def offerEntry (source : ArmSource) (r : State × ArmCount) (index : Nat) : State × ArmCount :=
  match skipReason r.1.cx.set index with
  | some reason =>
    (skipEntry source index reason r.1,
     { r.2 with skipped := r.2.skipped + 1, firstSkip := r.2.firstSkip.or (some reason) })
  | none =>
    match tableGet r.1.edt index with
    | some d => (armEntry source index d r.1, { r.2 with armed := r.2.armed + 1 })
    | none => r

/-- The walked entries are offered one at a time, in walk order (R52). -/
def offerEntries (source : ArmSource) (entries : List Nat) (s : State) : State × ArmCount :=
  entries.foldl (offerEntry source) (s, ArmCount.zero)

/-- A chain is armed from CHAIN or SYNC: a fault of the walk is a consistency fault and arms nothing
(R51, R52, R56). -/
def armChain (source : ArmSource) (head : Nat) (s : State) : State :=
  match walk s.edt head with
  | .ok entries => (offerEntries source entries s).1
  | .empty i => consistencyFault (.emptyDesc i) s
  | .long => consistencyFault (.chainLong head) s

/-- The chain of a completed context's AFTER link: it arms in every state but FAULTED (R53, R54). -/
def armAfterLink (head : Nat) (s : State) : State :=
  if s.sch.state = .faulted then s else armChain .chain head s

/-- A qualified sync event at the Scheduler (R55). -/
def syncAtScheduler (s : State) : State :=
  match s.sch.state with
  | .running => match s.par.syncOffset with | some o => armChain .sync (resolveOffset s o) s | none => s
  | .stepping => match s.par.syncOffset with | some o => armChain .sync (resolveOffset s o) s | none => s
  | .halted => setFlag .syncIgnored s
  | .faulted => setFlag .syncIgnored s

/-! ### The ring read of a boundary (R38, R44) -/

/-- The slot read at a boundary (R38). -/
def slotOfCycle (cycle : Nat) : Nat := cycle % 512

/-- The Scheduler reads the ring in this state (R38). -/
def readsRing (st : SchedState) : Bool :=
  match st with
  | .running => true
  | .stepping => true
  | .halted => false
  | .faulted => false

/-- A ONCE slot is emptied by its read (R38). -/
def emptyOnce (cycle : Nat) (slot : Slot) (s : State) : State :=
  match slot.persistence with
  | .once => s.withRing (tableErase s.ring (slotOfCycle cycle))
  | .every => s

/-- A STEPPING scheduler whose step completes on the frame becomes HALTED, after the arming and after any
STOP of that frame, which finds it STEPPING (R44, R123). -/
def endStepIf (completes : Bool) (s : State) : State :=
  if completes && s.sch.state == .stepping then s.withSch { s.sch with state := .halted } else s

/-- A boundary in the present state would find an occupied slot. -/
def ringOccupied (s : State) : Bool :=
  readsRing s.sch.state && (tableGet s.ring (slotOfCycle s.ant.cycle)).isSome

/-! ### Slot commands (R39 to R41) -/

/-- The index test of WRITE_SLOTS and READ_SLOTS (R39, R40). -/
def slotRangeOk (first count : Nat) : Bool :=
  first ≤ 511 && 1 ≤ count && count ≤ 30 && first + count ≤ 512

/-- The slots from `first` on take the content of the records (R39). -/
def putSlots (ring : List (Nat × Slot)) (first : Nat) (records : List (Option Slot)) :
    List (Nat × Slot) :=
  match records with
  | [] => ring
  | r :: rest => putSlots (tablePut ring first r) (first + 1) rest

/-- WRITE_SLOTS at the arrival of its completing frame (R39). -/
def arriveWriteSlots (payload : List Word) (s : State) : Status × State :=
  let first := hi16 (payload.getD 0 0)
  let count := lo16 (payload.getD 0 0)
  if slotRangeOk first count then
    match readSlotRecords (payload.drop 1) with
    | some records => (.ok, s.withRing (putSlots s.ring first records))
    | none => (.badField, s)
  else (.badIndex, s)

/-- The records READ_SLOTS returns (R40). -/
def slotsPayload (first count : Nat) (s : State) : List Word :=
  (List.range count).map (fun k => slotRecord (tableGet s.ring (first + k)))

/-! ### Scheduler commands (R43 to R47, R57) -/

/-- RUN at the arrival of its completing frame (R43). -/
def arriveRun (s : State) : Status × State :=
  if s.sch.state = .faulted then (.busy, s)
  else (.ok, s.withSch { s.sch with state := .running })

/-- STEP at the arrival of its completing frame (R44). -/
def arriveStep (s : State) : Status × State :=
  if s.sch.state = .halted then (.ok, s.withSch { s.sch with state := .stepping }) else (.busy, s)

/-- A phase of the Current Watch released by a CLEAR_FAULT accepted in FAULTED: TRIPPED under SAFE becomes
NORMAL with an over count of 0 (R109, R114). -/
def releaseSafe (action : TripAction) (c : CwPhase) : CwPhase :=
  if c.tripped && action == .safe then { c with tripped := false, overs := 0 } else c

/-- CLEAR_FAULT at the arrival of its completing frame (R47, R107, R114). -/
def arriveClearFault (s : State) : Status × State :=
  if s.sch.state = .faulted then
    if s.dsr.link = .up ∧ s.up.link = .up then
      (.ok,
       (startUnmute (s.withSch { s.sch with state := .halted, fault := none })).withCw
         (s.cw.map (releaseSafe s.par.tripAction)))
    else (.busy, s)
  else (.ok, s.withSch { s.sch with fault := none })

/-- The status of an ARM whose walk had no fault (R57). -/
def armStatus (c : ArmCount) : Status :=
  if 0 < c.armed then .ok
  else
    match c.firstSkip with
    | some .duplicate => .duplicate
    | some .setFull => .full
    | none => .ok

/-- ARM at the arrival of its completing frame: status, payload and state (R57). -/
def arriveArm (payload : List Word) (s : State) : Status × List Word × State :=
  let i := (payload.getD 0 0).toNat
  if 255 < i then (.badIndex, [], s)
  else if s.sch.state = .faulted then (.busy, [], s)
  else
    match walk s.edt i with
    | .empty _ => (.empty, [], s)
    | .long => (.badField, [], s)
    | .ok entries =>
      let r := offerEntries .command entries s
      (armStatus r.2, [halves r.2.armed r.2.skipped], r.1)

end Sys2Proof.Machine
end

