-- ==== Sys2Proof/Machine/Params.lean ====
section
/-! DEFINITION. Parameters (9.6): SET_PARAM, GET_PARAM, and what a write does at once (R34, R115, R116). -/

namespace Sys2Proof.Machine

/-- The phase of a group of three parameters, from the first's index (R157). -/
def paramPhase (offset : Nat) : Phase :=
  match offset with
  | 0 => .a
  | 1 => .b
  | _ => .c

/-- The range of a parameter that is a number (R157); SYNC_OFFSET is read on its own (R159). -/
def numberRange (i : Nat) : Option (Nat × Nat) :=
  if i ≤ 2 then some (0, 131071)
  else if i ≤ 5 then some (1, 262143)
  else if i ≤ 8 then some (0, 65535)
  else if i = 9 then some (0, 255)
  else if i ≤ 12 then some (0, 131071)
  else if i = 13 then some (1, 255)
  else if i = 15 then some (1, 4096)
  else if i = 16 then some (0, 16384)
  else if i = 17 then some (1, 255)
  else none

/-- A value moved to the nearer end of its range (R159). -/
def clamp (lo hi v : Nat) : Nat := max lo (min v hi)

/-- The status of a number written (R159). -/
def clampStatus (lo hi v : Nat) : Status := if clamp lo hi v = v then .ok else .okClamped

/-- FOLD_FLOOR is written: every fold-back gain below it is raised to it (R115). -/
def writeFoldFloor (v : Nat) (s : State) : State :=
  (s.withPar { s.par with foldFloor := v }).withCw
    (s.cw.map (fun c => { c with fold := max c.fold v }))

/-- A phase after a change of TRIP_ACTION: NORMAL with a gain of 16384; the over count is kept (R116). -/
def restKeepingCount (c : CwPhase) : CwPhase := { c with tripped := false, fold := Config.unity }

/-- TRIP_ACTION is written: a value different from the one in force returns the phases to rest (R116). -/
def writeTripAction (a : TripAction) (s : State) : State :=
  if a = s.par.tripAction then s
  else (s.withPar { s.par with tripAction := a }).withCw (s.cw.map restKeepingCount)

/-- A number in range is written (R159). -/
def writeNumber (i v : Nat) (s : State) : State :=
  if i ≤ 2 then s.withPar { s.par with peak := s.par.peak.set (paramPhase i) v }
  else if i ≤ 5 then s.withPar { s.par with slew := s.par.slew.set (paramPhase (i - 3)) v }
  else if i ≤ 8 then s.withPar { s.par with offset := s.par.offset.set (paramPhase (i - 6)) v }
  else if i = 9 then writePlanBase v s
  else if i ≤ 12 then s.withPar { s.par with ilim := s.par.ilim.set (paramPhase (i - 10)) v }
  else if i = 13 then s.withPar { s.par with tripQual := v }
  else if i = 15 then s.withPar { s.par with foldStep := v }
  else if i = 16 then writeFoldFloor v s
  else if i = 17 then s.withPar { s.par with syncQual := v }
  else s

/-- A value written to SYNC_OFFSET: a number, NONE, or neither (section 11.4.2). NONE is taken whatever bits 15-0
carry: DESIGN CHOICE (log 29). -/
def writeSyncOffset (w : Word) (s : State) : Status × State :=
  match hi16 w with
  | 0 =>
    (clampStatus 0 255 (lo16 w), s.withPar { s.par with syncOffset := some (clamp 0 255 (lo16 w)) })
  | 1 => (.ok, s.withPar { s.par with syncOffset := none })
  | _ => (.badField, s)

/-- SET_PARAM with an index and a value word, at the arrival of its completing frame: the tests of R159 in
order. -/
def setParamTo (i : Nat) (w : Word) (s : State) : Status × State :=
  if 20 < i then (.badIndex, s)
  else if i = 14 then
    match tripActionOfCode w.toNat with
    | some a => (.ok, writeTripAction a s)
    | none => (.badField, s)
  else if i = 18 then
    match syncEdgeOfCode w.toNat with
    | some e => (.ok, s.withPar { s.par with syncEdge := e })
    | none => (.badField, s)
  else if i = 19 then writeSyncOffset w s
  else if i = 20 then
    if 255 < w.toNat then (.badField, s)
    else (.ok, s.withPar { s.par with notifyMask := BitVec.ofNat 8 w.toNat })
  else
    match numberRange i with
    | some (lo, hi) => (clampStatus lo hi w.toNat, writeNumber i (clamp lo hi w.toNat) s)
    | none => (.badIndex, s)

/-- SET_PARAM at the arrival of its completing frame (R159). -/
def arriveSetParam (payload : List Word) (s : State) : Status × State :=
  setParamTo (payload.getD 0 0).toNat (payload.getD 1 0) s

/-- The value GET_PARAM returns for an index from 0 to 20 (R158). Bits 15-0 beside NONE have no stated value
and are sent as 0: DESIGN CHOICE (log 29). -/
def paramValue (i : Nat) (s : State) : Word :=
  if i ≤ 2 then number (s.par.peak.get (paramPhase i))
  else if i ≤ 5 then number (s.par.slew.get (paramPhase (i - 3)))
  else if i ≤ 8 then number (s.par.offset.get (paramPhase (i - 6)))
  else if i = 9 then number s.sch.planBase
  else if i ≤ 12 then number (s.par.ilim.get (paramPhase (i - 10)))
  else if i = 13 then number s.par.tripQual
  else if i = 14 then number (tripActionCode s.par.tripAction)
  else if i = 15 then number s.par.foldStep
  else if i = 16 then number s.par.foldFloor
  else if i = 17 then number s.par.syncQual
  else if i = 18 then number (syncEdgeCode s.par.syncEdge)
  else if i = 19 then
    match s.par.syncOffset with
    | some o => halves 0 o
    | none => halves 1 0
  else number s.par.notifyMask.toNat

end Sys2Proof.Machine
end

