-- ==== Sys2Proof/Machine/Commands.lean ====
section
/-! DEFINITION. The command channel (chapter 9): the common checks, what a command does at the arrival of
its completing frame, and its response, formed after the frame's work. -/

namespace Sys2Proof.Machine

/-- A record of state that a response returns, formed after the frame's work (R148). -/
inductive Query where
  | status
  | desc (index : Nat)
  | slots (first count : Nat)
  | contexts
  | markers
  | param (index : Nat)
  deriving DecidableEq, Repr

/-- What the arrival of a command has decided: a response whose content is fixed, or a record still to be
formed (R148). -/
inductive Answer where
  | fixed (status : Status) (payload : List Word)
  | later (query : Query)
  deriving DecidableEq, Repr

/-- The payload of IDENTIFY (R153, section 11.4.1). -/
def identity : List Word :=
  [halves 0x0EF5 6430, bytes 1 4 8 0, halves Config.descriptorCapacity Config.ringCapacity]

/-- The executor state field of the status record: HOLDING if the Report Queue holds 8 reports when the
response is offered (R155). -/
def executorField (s : State) : Nat :=
  if s.rpq.queue.length < Config.reportCapacity then 0 else 2

/-- The status record, 9 words (R155, section 11.4.1). The pending plan base field is 0 when none is held
(log 17), and bits 31-23 of word 6, which no flag names, are sent as 0: DESIGN CHOICE (log 28). -/
def statusPayload (s : State) : List Word :=
  [ bytes (schedCode s.sch.state) s.sch.planBase (s.sch.pendingBase.getD 0)
      (boolCode s.sch.pendingBase.isSome),
    halves s.ant.cycle (s.cx.set.length % 256 * 256 + s.cmx.buffer.length % 256),
    bytes s.rpq.queue.length (executorField s) (linkCode s.dsr.link) (linkCode s.up.link),
    bytes (boolCode s.cw.a.tripped) (boolCode s.cw.b.tripped) (boolCode s.cw.c.tripped)
      (muteCode s.lmu.mute),
    halves s.cw.a.fold s.cw.b.fold,
    halves s.cw.c.fold s.lmu.factor,
    s.flags.setWidth 32 ] ++ faultRecord s.sch.fault

/-- TAKE_FLAGS at the arrival of its completing frame: one reading and clearing (R156). Bits 31-23 of the
payload, which no flag names, are sent as 0: DESIGN CHOICE (log 28). -/
def arriveTakeFlags (payload : List Word) (s : State) : Answer × State :=
  let mask := payload.getD 0 0
  if 8388608 ≤ mask.toNat then (.fixed .badField [], s)
  else
    (.fixed .ok [s.flags.setWidth 32], s.withFlags (flagsWithout s.flags (mask.setWidth 23)))

/-- RESET_ENGINE in a state other than FAULTED: its effect on each block (R160). -/
def resetEngineNow (s : State) : State :=
  let s1 := emptySet s
  let s2 := s1.withSch { s1.sch with state := .halted, pendingBase := none, fault := none }
  let s3 := s2.withAnt { s2.ant with cycle := 0 }
  let s4 := s3.withCw ⟨CwPhase.rest, CwPhase.rest, CwPhase.rest⟩
  let s5 := s4.withMku { s4.mku with markers := rearmAll s4.mku.markers }
  s5.withFlags 0

/-- RESET_ENGINE at the arrival of its completing frame (R160). -/
def arriveResetEngine (s : State) : Status × State :=
  if s.sch.state = .faulted then (.busy, s) else (.ok, resetEngineNow s)

/-- A response without payload. -/
def plain (r : Status × State) : Answer × State := (.fixed r.1 [], r.2)

/-- A command that has passed the common checks is handed to its own rule (R151). -/
def ownRule (c : Cmd) (s : State) : Answer × State :=
  if c.code = codeIdentify then (.fixed .ok identity, s)
  else if c.code = codeGetStatus then (.later .status, s)
  else if c.code = codeTakeFlags then arriveTakeFlags c.payload s
  else if c.code = codeGetParam then
    (if 20 < (c.payload.getD 0 0).toNat then .fixed .badIndex []
     else .later (.param (c.payload.getD 0 0).toNat), s)
  else if c.code = codeSetParam then plain (arriveSetParam c.payload s)
  else if c.code = codeResetEngine then plain (arriveResetEngine s)
  else if c.code = codeWriteDesc then plain (arriveWriteDesc c.payload s)
  else if c.code = codeReadDesc then
    (if 255 < (c.payload.getD 0 0).toNat then .fixed .badIndex []
     else .later (.desc (c.payload.getD 0 0).toNat), s)
  else if c.code = codeEraseDesc then plain (arriveEraseDesc c.payload s)
  else if c.code = codeWriteSlots then plain (arriveWriteSlots c.payload s)
  else if c.code = codeReadSlots then
    (if slotRangeOk (hi16 (c.payload.getD 0 0)) (lo16 (c.payload.getD 0 0)) then
       .later (.slots (hi16 (c.payload.getD 0 0)) (lo16 (c.payload.getD 0 0)))
     else .fixed .badIndex [], s)
  else if c.code = codeRun then plain (arriveRun s)
  else if c.code = codeStep then plain (arriveStep s)
  else if c.code = codeHalt then plain (arriveHalt s)
  else if c.code = codeAbort then plain (arriveAbort s)
  else if c.code = codeSetCycle then plain (arriveSetCycle c.payload s)
  else if c.code = codeArm then
    let r := arriveArm c.payload s
    (.fixed r.1 r.2.1, r.2.2)
  else if c.code = codeClearFault then plain (arriveClearFault s)
  else if c.code = codeReadContexts then (.later .contexts, s)
  else if c.code = codeSetMarker then plain (arriveSetMarker c.payload s)
  else if c.code = codeReadMarkers then (.later .markers, s)
  else (.fixed .badCode [], s)

/-- A command at the arrival of its completing frame: the common checks in order, then its own rule (R148,
R151). -/
def commandArrives (c : Cmd) (s : State) : Answer × State :=
  match requiredLength c.code c.payload with
  | none => (.fixed .badCode [], s)
  | some n => if c.payload.length = n then ownRule c s else (.fixed .badLength [], s)

/-- The status and payload of an answer, a record read from the state after the frame's work (R148). -/
def formAnswer (a : Answer) (s : State) : Status × List Word :=
  match a with
  | .fixed st payload => (st, payload)
  | .later .status => (.ok, statusPayload s)
  | .later (.desc i) => descAnswer i s
  | .later (.slots first count) => (.ok, slotsPayload first count s)
  | .later .contexts => (.ok, contextsPayload s)
  | .later .markers => (.ok, markersPayload s)
  | .later (.param i) => (.ok, [paramValue i s])

/-- The response is formed after the frame's work and offered to the Report Queue (R148, R149, R150). -/
def respond (c : Cmd) (a : Answer) (s : State) : State :=
  let r := formAnswer a s
  offerResponse (responseFrame c.code c.tag r.1 r.2) s

/-- The executor carries a command out at one moment: checks and effect, then the response (R148). -/
def carryOut (c : Cmd) (s : State) : State :=
  let r := commandArrives c s
  respond c r.1 r.2

/-- A command row of the table (log 3): the executor carries the command out if it is IDLE or holds this
very command; otherwise the command is not in the executor and nothing comes about. -/
def commandRow (c : Cmd) (s : State) : State :=
  match s.cmx.exec with
  | .idle => carryOut c s
  | .executing held => if held = c then carryOut c s else s
  | .holding _ => s

end Sys2Proof.Machine
end

