-- ==== Sys2Proof/Machine/RowsCommands.lean ====
section
/-! DEFINITION. The meanings of the engine command rows: the command completes at once where the executor is
IDLE or holds it (log 3), checked, carried out and answered as chapter 9 says. -/

namespace Sys2Proof.Machine

/-- IDENTIFY (R153). -/
def execIdentify (tag : Tag) (payload : List Word) (s : State) : Host.Outcome State Fault Refusal :=
  .next (commandRow { code := codeIdentify, tag := tag, payload := payload } s)

/-- GET_STATUS (R155). -/
def execGetStatus (tag : Tag) (payload : List Word) (s : State) : Host.Outcome State Fault Refusal :=
  .next (commandRow { code := codeGetStatus, tag := tag, payload := payload } s)

/-- TAKE_FLAGS (R156). -/
def execTakeFlags (tag : Tag) (payload : List Word) (s : State) : Host.Outcome State Fault Refusal :=
  .next (commandRow { code := codeTakeFlags, tag := tag, payload := payload } s)

/-- GET_PARAM (R158). -/
def execGetParam (tag : Tag) (payload : List Word) (s : State) : Host.Outcome State Fault Refusal :=
  .next (commandRow { code := codeGetParam, tag := tag, payload := payload } s)

/-- SET_PARAM (R159). -/
def execSetParam (tag : Tag) (payload : List Word) (s : State) : Host.Outcome State Fault Refusal :=
  .next (commandRow { code := codeSetParam, tag := tag, payload := payload } s)

/-- RESET_ENGINE (R160). -/
def execResetEngine (tag : Tag) (payload : List Word) (s : State) : Host.Outcome State Fault Refusal :=
  .next (commandRow { code := codeResetEngine, tag := tag, payload := payload } s)

/-- WRITE_DESC (R26). -/
def execWriteDesc (tag : Tag) (payload : List Word) (s : State) : Host.Outcome State Fault Refusal :=
  .next (commandRow { code := codeWriteDesc, tag := tag, payload := payload } s)

/-- READ_DESC (R29). -/
def execReadDesc (tag : Tag) (payload : List Word) (s : State) : Host.Outcome State Fault Refusal :=
  .next (commandRow { code := codeReadDesc, tag := tag, payload := payload } s)

/-- ERASE_DESC (R30). -/
def execEraseDesc (tag : Tag) (payload : List Word) (s : State) : Host.Outcome State Fault Refusal :=
  .next (commandRow { code := codeEraseDesc, tag := tag, payload := payload } s)

/-- WRITE_SLOTS (R39). -/
def execWriteSlots (tag : Tag) (payload : List Word) (s : State) : Host.Outcome State Fault Refusal :=
  .next (commandRow { code := codeWriteSlots, tag := tag, payload := payload } s)

/-- READ_SLOTS (R40). -/
def execReadSlots (tag : Tag) (payload : List Word) (s : State) : Host.Outcome State Fault Refusal :=
  .next (commandRow { code := codeReadSlots, tag := tag, payload := payload } s)

/-- RUN (R43). -/
def execRun (tag : Tag) (payload : List Word) (s : State) : Host.Outcome State Fault Refusal :=
  .next (commandRow { code := codeRun, tag := tag, payload := payload } s)

/-- STEP (R44). -/
def execStepSlot (tag : Tag) (payload : List Word) (s : State) : Host.Outcome State Fault Refusal :=
  .next (commandRow { code := codeStep, tag := tag, payload := payload } s)

/-- HALT (R45). -/
def execHalt (tag : Tag) (payload : List Word) (s : State) : Host.Outcome State Fault Refusal :=
  .next (commandRow { code := codeHalt, tag := tag, payload := payload } s)

/-- ABORT (R46). -/
def execAbort (tag : Tag) (payload : List Word) (s : State) : Host.Outcome State Fault Refusal :=
  .next (commandRow { code := codeAbort, tag := tag, payload := payload } s)

/-- CLEAR_FAULT (R47). -/
def execClearFault (tag : Tag) (payload : List Word) (s : State) : Host.Outcome State Fault Refusal :=
  .next (commandRow { code := codeClearFault, tag := tag, payload := payload } s)

/-- SET_CYCLE (R13). -/
def execSetCycle (tag : Tag) (payload : List Word) (s : State) : Host.Outcome State Fault Refusal :=
  .next (commandRow { code := codeSetCycle, tag := tag, payload := payload } s)

/-- ARM (R57). -/
def execArm (tag : Tag) (payload : List Word) (s : State) : Host.Outcome State Fault Refusal :=
  .next (commandRow { code := codeArm, tag := tag, payload := payload } s)

/-- READ_CONTEXTS (R82). -/
def execReadContexts (tag : Tag) (payload : List Word) (s : State) : Host.Outcome State Fault Refusal :=
  .next (commandRow { code := codeReadContexts, tag := tag, payload := payload } s)

/-- SET_MARKER (R125). -/
def execSetMarker (tag : Tag) (payload : List Word) (s : State) : Host.Outcome State Fault Refusal :=
  .next (commandRow { code := codeSetMarker, tag := tag, payload := payload } s)

/-- READ_MARKERS (R126). -/
def execReadMarkers (tag : Tag) (payload : List Word) (s : State) : Host.Outcome State Fault Refusal :=
  .next (commandRow { code := codeReadMarkers, tag := tag, payload := payload } s)

/-- SET_PLAN_BASE: SET_PARAM of parameter 9 (R34, R159). -/
def execSetPlanBase (tag : Tag) (value : Word) (s : State) : Host.Outcome State Fault Refusal :=
  .next (commandRow { code := codeSetParam, tag := tag, payload := [9, value] } s)

/-- SET_TRIP_ACTION: SET_PARAM of parameter 14 (R116, R159). -/
def execSetTripAction (tag : Tag) (value : Word) (s : State) : Host.Outcome State Fault Refusal :=
  .next (commandRow { code := codeSetParam, tag := tag, payload := [14, value] } s)

/-- SET_FOLD_FLOOR: SET_PARAM of parameter 16 (R115, R159). -/
def execSetFoldFloor (tag : Tag) (value : Word) (s : State) : Host.Outcome State Fault Refusal :=
  .next (commandRow { code := codeSetParam, tag := tag, payload := [16, value] } s)

/-- UNDEFINED_COMMAND_CODE (R151): answered BAD_CODE. A code that is defined is not this row (log 2). -/
def execUndefinedCommandCode (code : Code) (tag : Tag) (payload : List Word) (s : State) :
    Host.Outcome State Fault Refusal :=
  .next
    (if (requiredLength code payload).isNone then
       commandRow { code := code, tag := tag, payload := payload } s
     else s)

end Sys2Proof.Machine
end

