-- ==== Sys2Proof/Machine/Samples.lean ====
section
/-! DEFINITION. The Sample Arithmetic Unit (chapter 5): sine table, envelope product, injected terms, raw
output. -/

namespace Sys2Proof.Machine

/-! ### The sine table (R89) -/

/-- Entries 0 to 63 of the sine table (R89; log 21). -/
def sineQuarter0 : List Nat :=
  [0, 201, 402, 603, 804, 1005, 1206, 1407, 1608, 1809, 2009, 2210, 2410, 2611, 2811, 3012] ++
  [3212, 3412, 3612, 3811, 4011, 4210, 4410, 4609, 4808, 5007, 5205, 5404, 5602, 5800, 5998, 6195] ++
  [6393, 6590, 6786, 6983, 7179, 7375, 7571, 7767, 7962, 8157, 8351, 8545, 8739, 8933, 9126, 9319] ++
  [9512, 9704, 9896, 10087, 10278, 10469, 10659, 10849, 11039, 11228, 11417, 11605, 11793, 11980, 12167, 12353]

/-- Entries 64 to 127 of the sine table (R89; log 21). -/
def sineQuarter1 : List Nat :=
  [12539, 12725, 12910, 13094, 13279, 13462, 13645, 13828, 14010, 14191, 14372, 14553, 14732, 14912, 15090, 15269] ++
  [15446, 15623, 15800, 15976, 16151, 16325, 16499, 16673, 16846, 17018, 17189, 17360, 17530, 17700, 17869, 18037] ++
  [18204, 18371, 18537, 18703, 18868, 19032, 19195, 19357, 19519, 19680, 19841, 20000, 20159, 20317, 20475, 20631] ++
  [20787, 20942, 21096, 21250, 21403, 21554, 21705, 21856, 22005, 22154, 22301, 22448, 22594, 22739, 22884, 23027]

/-- Entries 128 to 191 of the sine table (R89; log 21). -/
def sineQuarter2 : List Nat :=
  [23170, 23311, 23452, 23592, 23731, 23870, 24007, 24143, 24279, 24413, 24547, 24680, 24811, 24942, 25072, 25201] ++
  [25329, 25456, 25582, 25708, 25832, 25955, 26077, 26198, 26319, 26438, 26556, 26674, 26790, 26905, 27019, 27133] ++
  [27245, 27356, 27466, 27575, 27683, 27790, 27896, 28001, 28105, 28208, 28310, 28411, 28510, 28609, 28706, 28803] ++
  [28898, 28992, 29085, 29177, 29268, 29358, 29447, 29534, 29621, 29706, 29791, 29874, 29956, 30037, 30117, 30195]

/-- Entries 192 to 255 of the sine table (R89; log 21). -/
def sineQuarter3 : List Nat :=
  [30273, 30349, 30424, 30498, 30571, 30643, 30714, 30783, 30852, 30919, 30985, 31050, 31113, 31176, 31237, 31297] ++
  [31356, 31414, 31470, 31526, 31580, 31633, 31685, 31736, 31785, 31833, 31880, 31926, 31971, 32014, 32057, 32098] ++
  [32137, 32176, 32213, 32250, 32285, 32318, 32351, 32382, 32412, 32441, 32469, 32495, 32521, 32545, 32567, 32589] ++
  [32609, 32628, 32646, 32663, 32678, 32692, 32705, 32717, 32728, 32737, 32745, 32752, 32757, 32761, 32765, 32766]

/-- Entries 0 to 256 of the sine table: the first quarter of the cycle and its peak (R89). -/
def sineRise : List Nat := sineQuarter0 ++ sineQuarter1 ++ sineQuarter2 ++ sineQuarter3 ++ [32767]

/-- Entry i of the sine table, 0 to 1023, from the first quarter by the table's exact symmetries: entry
512 - i equals entry i, entry 512 + i is its negative (R89). -/
def sineEntry (i : Nat) : Int :=
  if i ≤ 256 then (sineRise.getD i 0 : Nat)
  else if i ≤ 512 then (sineRise.getD (512 - i) 0 : Nat)
  else if i ≤ 768 then -((sineRise.getD (i - 512) 0 : Nat) : Int)
  else -((sineRise.getD (1024 - i) 0 : Nat) : Int)

/-- The entry an angle selects: the angle divided by 64, rounded down (R89). -/
def sineOfAngle (angle : Nat) : Int := sineEntry (angle / 64)

/-! ### One frame's contexts as the SAU reads them (R86) -/

/-- What a context gives the SAU for a frame (R83, R86): the life state it took the frame in, its value for
the frame, and the accumulator as it stood at the start of the frame. -/
structure Contribution where
  snap : Desc
  takenIn : Life
  value : Nat
  tone : Nat
  deriving DecidableEq, Repr

/-- The contribution of a context from its record before the frame and after it. -/
def contribution (before after : Ctx) : Contribution :=
  { snap := before.snap, takenIn := before.life, value := after.value, tone := before.tone }

/-- The context is active on the frame and covers the phase (R64, R87, R94). -/
def Contribution.acts (c : Contribution) (p : Phase) : Bool :=
  isActive c.takenIn && maskHas c.snap.phases p

/-- The context marks the phase open: kind OPEN, took the frame in HOLD (R70, R104). -/
def Contribution.opens (c : Contribution) (p : Phase) : Bool :=
  c.snap.kind == .openCircuit && c.takenIn == .hold && maskHas c.snap.phases p

/-! ### Envelope product (R87, R88) -/

/-- A gain step before saturation: G × v + 8192, divided by 16384, rounded down (R88). -/
def gainProduct (g v : Nat) : Nat := (g * v + 8192) / 16384

/-- A gain step: the product, 65535 at most, and whether it saturated (R88). -/
def gainStep (r : Nat × Bool) (v : Nat) : Nat × Bool :=
  if Config.gainTop < gainProduct r.1 v then (Config.gainTop, true) else (gainProduct r.1 v, r.2)

/-- The gain factors of a phase in order: the active gain contexts in set order, the fold-back gain, the
mute factor (R87). -/
def gainFactors (cs : List Contribution) (p : Phase) (fold factor : Nat) : List Nat :=
  ((cs.filter (fun c => isGain c.snap.kind && c.acts p)).map (·.value)) ++ [fold, factor]

/-- The envelope product of a phase, and whether a gain step saturated (R87, R88). -/
def envelope (cs : List Contribution) (p : Phase) (fold factor : Nat) : Nat × Bool :=
  (gainFactors cs p fold factor).foldl gainStep (Config.unity, false)

/-! ### Injected terms (R91 to R94) -/

/-- The angle of a harmonic term (R91). -/
def harmonicAngle (theta offset order phi : Nat) : Nat :=
  (((theta + offset) % 65536) * order + phi) % 65536

/-- The angle of a tone term (R92). -/
def toneAngle (accumulator : Nat) : Nat := accumulator / 65536

/-- A term: A × s + 16384, divided by 32768, rounded down (R93). -/
def termOf (a : Nat) (s : Int) : Int := ((a : Int) * s + 16384) / 32768

/-- The term a context contributes to a phase; 0 where it contributes none (R91, R92). -/
def injectedTerm (theta offset : Nat) (p : Phase) (c : Contribution) : Int :=
  if c.acts p then
    match c.snap.kind with
    | .harmonic => termOf c.value (sineOfAngle (harmonicAngle theta offset c.snap.order c.snap.phi))
    | .tone => termOf c.value (sineOfAngle (toneAngle c.tone))
    | .level => 0
    | .openCircuit => 0
    | .flicker => 0
  else 0

/-- The injection sum of a phase (R94). -/
def injectionSum (cs : List Contribution) (theta offset : Nat) (p : Phase) : Int :=
  (cs.map (injectedTerm theta offset p)).sum

/-! ### Raw output (R95) -/

/-- The scaled input: x × G + 8192, divided by 16384, rounded down (R95). -/
def scaledInput (x : Int) (g : Nat) : Int := (x * (g : Int) + 8192) / 16384

/-- Saturation to the sample range (R95). -/
def saturate (y : Int) : Int := max (-131072) (min y 131071)

/-- The raw output of one phase with the two saturation marks (R88, R95). -/
structure Raw where
  y : Int
  gainSat : Bool
  sumSat : Bool
  deriving DecidableEq, Repr

/-- The raw output of a phase (R95). -/
def rawOutput (cs : List Contribution) (theta : Nat) (p : Phase) (x : Int) (offset fold factor : Nat) :
    Raw :=
  let g := envelope cs p fold factor
  let sum := scaledInput x g.1 + injectionSum cs theta offset p
  { y := saturate sum, gainSat := g.2, sumSat := saturate sum != sum }

/-- The raw outputs of a frame (R96), from the held input samples: the DSR has stored a good frame's
samples there before the frame is computed (R85). -/
def rawOutputs (cs : List Contribution) (theta : Nat) (s : State) : PerPhase Raw :=
  PerPhase.of (fun p =>
    rawOutput cs theta p (s.sau.xHold.get p) (s.par.offset.get p) (s.cw.get p).fold s.lmu.factor)

end Sys2Proof.Machine
end

