-- ==== Sys2Proof/Machine/Limits.lean ====
section
/-! DEFINITION. The Limit and Mute Unit (6.1 to 6.3): mute ramp, slew stage, peak stage. -/

namespace Sys2Proof.Machine

/-! ### Mute factor (R105) -/

/-- A ramp's step toward its end value, before and at the thirty-second frame (R105). -/
def muteRampStep (e : Nat) (done running : Mute) (m : Lmu) : Lmu :=
  let n := m.rampStep + 1
  if Config.muteFrames ≤ n then { m with factor := e, mute := done, rampStep := 0 }
  else { m with factor := rampValue m.rampStart e n Config.muteFrames, mute := running, rampStep := n }

/-- M for a presented frame (R105). -/
def muteFrame (m : Lmu) : Lmu :=
  match m.mute with
  | .unmuted => { m with factor := Config.unity }
  | .muted => { m with factor := 0 }
  | .muting => muteRampStep 0 .muted .muting m
  | .unmuting => muteRampStep Config.unity .unmuted .unmuting m

/-! ### Slew and peak stages (R100, R101) -/

/-- What the two stages make of a raw output: the emitted sample, and which stage acted. -/
structure Limited where
  y : Int
  slewed : Bool
  clipped : Bool
  deriving DecidableEq, Repr

/-- The slew stage (R100). -/
def slewStage (raw prev : Int) (slew : Nat) : Int :=
  if (slew : Int) < raw - prev then prev + slew
  else if raw - prev < -(slew : Int) then prev - slew
  else raw

/-- The slew stage acts (R100). -/
def slewActs (raw prev : Int) (slew : Nat) : Bool :=
  decide ((slew : Int) < raw - prev) || decide (raw - prev < -(slew : Int))

/-- The peak stage (R101). -/
def peakStage (y : Int) (peak : Nat) : Int :=
  if (peak : Int) < y then peak else if y < -(peak : Int) then -(peak : Int) else y

/-- The peak stage acts (R101). -/
def peakActs (y : Int) (peak : Nat) : Bool :=
  decide ((peak : Int) < y) || decide (y < -(peak : Int))

/-- Slew limit, then peak limit (R100, R101). -/
def limitPhase (raw prev : Int) (slew peak : Nat) : Limited :=
  let y := slewStage raw prev slew
  { y := peakStage y peak, slewed := slewActs raw prev slew, clipped := peakActs y peak }

/-- The three phases of a frame (R99). -/
def limitAll (raw : PerPhase Int) (s : State) : PerPhase Limited :=
  PerPhase.of (fun p =>
    limitPhase (raw.get p) (s.lmu.yPrev.get p) (s.par.slew.get p) (s.par.peak.get p))

/-! ### Flags and LIMIT notices (R103) -/

/-- A stage acted: the flag is set, and its change from clear to set raises a LIMIT notice (R103). -/
def limitFlag (acts : Bool) (flag : Flag) (slew : Bool) (p : Phase) (s : State) : State :=
  if acts then
    raiseIf (!flagIsSet s.flags flag) (.limit slew p s.ant.cycle) (setFlag flag s)
  else s

/-- SLEW_p, then CLIP_p (R103). -/
def limitFlagsOf (l : PerPhase Limited) (p : Phase) (s : State) : State :=
  limitFlag (l.get p).clipped (.clip p) false p (limitFlag (l.get p).slewed (.slew p) true p s)

/-- The flags and notices of a frame in the order SLEW_A, CLIP_A, SLEW_B, CLIP_B, SLEW_C, CLIP_C (R103). -/
def limitFlags (l : PerPhase Limited) (s : State) : State :=
  limitFlagsOf l .c (limitFlagsOf l .b (limitFlagsOf l .a s))

/-- Some flag would go from clear to set, so a notice is raised (R103). -/
def limitNews (l : PerPhase Limited) (s : State) : Bool :=
  let newOn := fun p =>
    ((l.get p).slewed && !flagIsSet s.flags (.slew p)) ||
    ((l.get p).clipped && !flagIsSet s.flags (.clip p))
  newOn .a || newOn .b || newOn .c

end Sys2Proof.Machine
end

