-- ==== Sys2Proof/Machine/Work.lean ====
section
/-! DEFINITION. The parts of a frame's work whose order the manual leaves open, and the free order in which
they are taken (R58, R76, R79, R121, R123; log 6). -/

namespace Sys2Proof.Machine

/-- A part of a frame's work that meets others in an open order. A part is taken whole, with all its notices:
DESIGN CHOICE (log 6). -/
inductive Item where
  /-- the ring read of a boundary with the armings it makes (R38) -/
  | ringRead
  /-- the CYCLE markers of a boundary (R120) -/
  | cycleMarks
  /-- the notice and the marker condition of a life that starts (R67) -/
  | lifeStarts (index : Nat) (late : Bool)
  /-- the decision at the end of a life (R73) -/
  | lifeEnds (index : Nat)
  /-- the arming of a completed context's AFTER link (R54) -/
  | afterLink (head : Nat)
  /-- the LIMIT flags and notices of the frame (R103) -/
  | limits (l : PerPhase Limited)
  /-- the CLIP markers of the frame (R120) -/
  | clipMarks (clipped : PerPhase Bool)
  deriving DecidableEq, Repr

/-- One occurrence with a notice in its place among the firings: before marker 0, 1, 2 or 3 at that place, behind
them all at place 4 (R121). -/
def fireWithNotice (hit : MarkerCond → Bool) (place : Nat) (n : Notice) (s : State) : State :=
  let s0 := fireIfHit hit 0 (raiseIf (place == 0) n s)
  let s1 := fireIfHit hit 1 (raiseIf (place == 1) n s0)
  let s2 := fireIfHit hit 2 (raiseIf (place == 2) n s1)
  let s3 := fireIfHit hit 3 (raiseIf (place == 3) n s2)
  raiseIf (place == 4) n s3

/-- A notice and the firing of the markers that its occurrence meets. The firings come in the order 0 to 3, each
before or after the notice (R121), so the notice falls before, between or behind them; a free choice says where
(log 6). -/
def noticeAndFire (c : Bool) (n : Notice) (hit : MarkerCond → Bool) (s : State) : State :=
  if c && anyMarkerHit hit s then fireWithNotice hit (choose 5 s).1 n (choose 5 s).2
  else fireMarkers hit (raiseIf c n s)

/-- A life starts: CTX_START if notify includes START, and the DESC_START condition (R67, R80, R121). -/
def lifeStartsNow (index : Nat) (late : Bool) (s : State) : State :=
  match findCtx s.cx.set index with
  | none => s
  | some c =>
    noticeAndFire (notifiesStart c.snap) (.ctxStart index (lifeNumber c) s.ant.cycle late)
      (hitDescStart index) s

/-- The chain armed when a context ends: complete, without an ending mark, with an AFTER link (R54, R75). -/
def chainOf (c : Ctx) (aborted : Bool) : List Item :=
  if !aborted && c.mark == .none && linksAfter c.snap then [.afterLink (linkIndex c.index c.snap.next)]
  else []

/-- A context ends: it leaves the set; CTX_END if notify includes END; DESC_END for COMPLETE (R75, R81,
R121). -/
def contextEnds (c : Ctx) (aborted : Bool) (s : State) : State :=
  let s1 := s.withCx { s.cx with set := removeCtx s.cx.set c.index }
  if aborted then raiseIf (notifiesEnd c.snap) (.ctxEnd c.index true s1.ant.cycle) s1
  else
    noticeAndFire (notifiesEnd c.snap) (.ctxEnd c.index false s1.ant.cycle) (hitDescEnd c.index) s1

/-- A life ends: the context goes on to GAP or WAIT, or ends and hands over its chain (R73, R75). The chain
is decided before the DESC_END markers fire (R76, R123). -/
def lifeEndsNow (index : Nat) (s : State) : State × List Item :=
  match findCtx s.cx.set index with
  | none => (s, [])
  | some c =>
    match decideLife c with
    | .goesOn c' => (s.withCx { s.cx with set := replaceCtx s.cx.set index c' }, [])
    | .ends aborted => (contextEnds c aborted s, chainOf c aborted)

/-- A start is worth an item of its own: a notice or a marker comes with it. -/
def startShows (s : State) (c : Ctx) : Bool :=
  notifiesStart c.snap || anyMarkerHit (hitDescStart c.index) s

/-- The items of one context that has taken a frame. -/
def itemsOf (s : State) (r : Ctx × CtxEvent) : List Item :=
  match r.2 with
  | .nothing => []
  | .start late => if startShows s r.1 then [.lifeStarts r.1.index late] else []
  | .lifeEnd => [.lifeEnds r.1.index]

/-- Some context of a frame made a late start (R66). -/
def anyLate (rs : List (Ctx × CtxEvent)) : Bool := rs.any (fun r => r.2 == .start true)

/-- Contexts of the set from position `n` on take the frame; START_LATE for a late start (R64, R66). -/
def takeFrom (f : FrameInfo) (n : Nat) (s : State) : State × List Item :=
  let rs := (s.cx.set.drop n).map (takeFrame f)
  let s1 := s.withCx { s.cx with set := s.cx.set.take n ++ rs.map (·.1) }
  (setFlagIf (anyLate rs) .startLate s1, rs.flatMap (itemsOf s1))

/-- A life that starts as its context joins the set: its notice and its markers come about at once, or as a
part of the frame in the free order (R79, R121; log 16). -/
def startNowOrLater (items : List Item) (s : State) : State × List Item :=
  match items with
  | [.lifeStarts index late] =>
    if (chooseFirst s).1 then (lifeStartsNow index late (chooseFirst s).2, [])
    else ((chooseFirst s).2, [.lifeStarts index late])
  | l => (s, l)

/-- One entry of a ring read's chain is offered; the context it makes takes the boundary frame as soon as it
joins the set, before the next entry is offered (R52, R63). -/
def offerRingEntry (f : FrameInfo) (r : State × List Item) (index : Nat) : State × List Item :=
  let t := takeFrom f r.1.cx.set.length (offerEntry .ring (r.1, ArmCount.zero) index).1
  let u := startNowOrLater t.2 t.1
  (u.1, r.2 ++ u.2)

/-- A chain is armed with source RING (R51, R52, R56, R63). -/
def armRing (f : FrameInfo) (head : Nat) (s : State) : State × List Item :=
  match walk s.edt head with
  | .ok entries => entries.foldl (offerRingEntry f) (s, [])
  | .empty i => (consistencyFault (.emptyDesc i) s, [])
  | .long => (consistencyFault (.chainLong head) s, [])

/-- The ring read of a boundary: the chain of an occupied slot is armed with source RING, and a ONCE slot is
emptied (R38). -/
def ringReadNow (f : FrameInfo) (s : State) : State × List Item :=
  if readsRing s.sch.state then
    match tableGet s.ring (slotOfCycle s.ant.cycle) with
    | none => (s, [])
    | some slot => armRing f (resolveOffset s slot.offset) (emptyOnce s.ant.cycle slot s)
  else (s, [])

/-- One item is taken; it may leave further items. -/
def doItem (f : FrameInfo) (it : Item) (s : State) : State × List Item :=
  match it with
  | .ringRead => ringReadNow f s
  | .cycleMarks => (fireMarkers (hitCycle s.ant.cycle) s, [])
  | .lifeStarts index late => (lifeStartsNow index late s, [])
  | .lifeEnds index => lifeEndsNow index s
  | .afterLink head => (armAfterLink head s, [])
  | .limits l => (limitFlags l s, [])
  | .clipMarks clipped => (fireMarkers (hitClip clipped) s, [])

/-- The items are taken one at a time; where more than one waits a free choice says which is next. The
number bounds the items taken. -/
def runItems (f : FrameInfo) (n : Nat) (items : List Item) (s : State) : State :=
  match n, items with
  | 0, _ => s
  | _ + 1, [] => s
  | k + 1, [x] =>
    let r := doItem f x s
    runItems f k r.2 r.1
  | k + 1, x :: y :: rest =>
    let c := choose (rest.length + 2) s
    let r := doItem f ((x :: y :: rest).getD c.1 x) c.2
    runItems f k ((x :: y :: rest).eraseIdx c.1 ++ r.2) r.1

/-- A bound on the items of a frame: each end of a life adds at most one arming, and a ring read at most
one start for each entry of its walk. -/
def itemBound (items : List Item) : Nat := 2 * items.length + 2 * Config.walkLimit

/-- All items of a frame, in a free order. -/
def runAll (f : FrameInfo) (items : List Item) (s : State) : State :=
  runItems f (itemBound items) items s

end Sys2Proof.Machine
end

