-- ==== Sys2Proof/Machine/Frame.lean ====
section
/-! DEFINITION. One frame presented to the Angle Tracker, from its arrival to the response of the command
that completes on it (R2, R135, R148). -/

namespace Sys2Proof.Machine

/-- What the DSR presents (R2). -/
inductive Presented where
  | good (x : Sample)
  | failing
  | selfGenerated
  deriving DecidableEq, Repr

/-! ### The DSR's share of the arrival -/

/-- A good SAMPLE frame's sequence number is not the expected one, while the link is UP (R134). -/
def seqGap (x : Sample) (d : Dsr) : Bool :=
  d.link == .up &&
    (match d.expected with
     | some e => e != x.seq
     | none => false)

/-- The link after a good SAMPLE frame: UP, its timer restarted at 160, the self-frame timer stopped where
a loss ends (R139, R141); with the expected sequence number and the control byte (R134, R135). -/
def goodDsr (x : Sample) (d : Dsr) : Dsr :=
  { d with
    link := .up
    timer := some Config.linkTicks
    selfTimer := if d.link = .up then d.selfTimer else none
    expected := some ((x.seq + 1) % 256)
    control := x.control }

/-- A good SAMPLE frame at the DSR (R85, R134, R135, R139, R141). -/
def goodArrival (x : Sample) (s : State) : State :=
  let s1 := setFlagIf (seqGap x s.dsr) .seqGap s
  let s2 := raiseIf (s.dsr.link == .lost true) (.link false true) (s1.withDsr (goodDsr x s.dsr))
  s2.withSau { s2.sau with xHold := x.x }

/-- The DSR after a failing SAMPLE frame: the expected number advances where it is present (R134), and the
self-frame timer restarts while the link is LOST (R140). -/
def failingDsr (d : Dsr) : Dsr :=
  { d with
    expected := d.expected.map (fun e => (e + 1) % 256)
    selfTimer := if d.link = .up then d.selfTimer else some Config.cadenceTicks }

/-- The DSR's share of the arrival of a presented frame. -/
def dsrArrival (p : Presented) (s : State) : State :=
  match p with
  | .good x => goodArrival x s
  | .failing => (setFlag .sampleCheck s).withDsr (failingDsr s.dsr)
  | .selfGenerated => s

/-- The DSR's share of the arrival sets a sticky flag: SEQ_GAP, SAMPLE_CHECK, or NOTICE_LOST where the LINK
notice of a recovery is discarded (R134, R135, R141, R163). -/
def arrivalSetsFlag (p : Presented) (s : State) : Bool :=
  match p with
  | .good x =>
    seqGap x s.dsr || (s.dsr.link == .lost true && noticeDiscarded (.link false true) s)
  | .failing => true
  | .selfGenerated => false

/-- The frame ends a downstream loss (R141). -/
def endsLoss (p : Presented) (s : State) : Bool :=
  match p with
  | .good _ => s.dsr.link != .up
  | .failing => false
  | .selfGenerated => false

/-- The order of the DSR's share and the command's share can be seen: CLEAR_FAULT on a recovery frame
(R47), TAKE_FLAGS or RESET_ENGINE with a flag the DSR sets (R156, R161), SET_PARAM with the LINK notice of
a recovery (R167). The manual leaves the order open there: the model's free choice (log 7, log 22). -/
def arrivalOrderOpen (p : Presented) (c : Cmd) (s : State) : Bool :=
  (c.code == codeClearFault && endsLoss p s) ||
  ((c.code == codeTakeFlags || c.code == codeResetEngine) && arrivalSetsFlag p s) ||
  (c.code == codeSetParam && endsLoss p s && s.dsr.link == .lost true)

/-- The arrival of a presented frame with the command that completes on it: both shares, in an open order
where it can be seen (R148; log 7). -/
def arrival (p : Presented) (s : State) : State × Option (Cmd × Answer) :=
  match s.cmx.exec with
  | .executing c =>
    let o := if arrivalOrderOpen p c s then chooseFirst s else (true, s)
    if o.1 then
      let r := commandArrives c (dsrArrival p o.2)
      (r.2, some (c, r.1))
    else
      let r := commandArrives c o.2
      (dsrArrival p r.2, some (c, r.1))
  | _ => (dsrArrival p s, none)

/-- What the tracker is shown: whether a good frame finds the link LOST is judged before the arrival
(R5). -/
def shownAs (p : Presented) (s : State) : Shown :=
  match p with
  | .good x => .good x.theta (endsLoss p s)
  | .failing => .held
  | .selfGenerated => .held

/-! ### The frame's work -/

/-- The contexts that were in the set before the arrival take the frame; one armed by an ARM completing on
the frame first takes the next (R53, R63, R64). -/
def takeUpTo (f : FrameInfo) (n : Nat) (set : List Ctx) : List (Ctx × CtxEvent) :=
  (set.take n).map (takeFrame f)

/-- What the contexts give the SAU for the frame (R83). -/
def contributions (f : FrameInfo) (n : Nat) (set : List Ctx) : List Contribution :=
  (set.take n).map (fun c => contribution c (takeFrame f c).1)

/-- The contexts take the frame (R64, R66). -/
def contextsTake (f : FrameInfo) (n : Nat) (s : State) : State :=
  let rs := takeUpTo f n s.cx.set
  setFlagIf (anyLate rs) .startLate
    (s.withCx { s.cx with set := rs.map (·.1) ++ s.cx.set.drop n })

/-- The mute factor for the frame (R105). -/
def muteTakes (s : State) : State := s.withLmu (muteFrame s.lmu)

/-- GAIN_SAT and SUM_SAT of a frame (R88, R95). -/
def saturationFlags (raw : PerPhase Raw) (s : State) : State :=
  setFlagIf (raw.a.sumSat || raw.b.sumSat || raw.c.sumSat) .sumSat
    (setFlagIf (raw.a.gainSat || raw.b.gainSat || raw.c.gainSat) .gainSat s)

/-- The emitted samples become the previous outputs (R101). -/
def emit (l : PerPhase Limited) (s : State) : State :=
  s.withLmu { s.lmu with yPrev := l.map (·.y) }

/-- The OPEN flags of the frame (R104). -/
def openFlags (cs : List Contribution) : PerPhase Bool :=
  PerPhase.of (fun p => cs.any (fun c => c.opens p))

/-- The MUTE flag of the frame (R108). -/
def muteFlag (s : State) : Bool := s.lmu.factor == 0 && s.sch.state == .faulted

/-- The items of a frame (log 6). -/
def frameItems (f : FrameInfo) (rs : List (Ctx × CtxEvent)) (l : PerPhase Limited) (s : State) :
    List Item :=
  (if f.boundary && ringOccupied s then [.ringRead] else []) ++
  (if f.boundary && anyMarkerHit (hitCycle s.ant.cycle) s then [.cycleMarks] else []) ++
  rs.flatMap (itemsOf s) ++
  (if limitNews l s then [.limits l] else []) ++
  (if anyMarkerHit (hitClip (l.map (·.clipped))) s then [.clipMarks (l.map (·.clipped))] else [])

/-- The OUTPUT frame of a presented frame is built and handed to DOUT, and its number used (R135, R136). -/
def sendOutput (p : Presented) (theta : Nat) (opens : PerPhase Bool) (s : State) : State :=
  let held := match p with | .good _ => false | .failing => true | .selfGenerated => true
  let self := match p with | .good _ => false | .failing => false | .selfGenerated => true
  let ws := outputFrame s.dsr.outSeq theta opens (muteFlag s) held self s.dsr.control s.lmu.yPrev
  let d := handToDout ws s.dsr
  s.withDsr { d with outSeq := (s.dsr.outSeq + 1) % 256 }

/-- The limited samples of a frame, from the state in which the contexts have taken it and M is set. -/
def limitedSamples (cs : List Contribution) (theta : Nat) (s : State) : PerPhase Limited :=
  limitAll ((rawOutputs cs theta s).map (·.y)) s

/-- The first part of a frame's work: a pending plan base is applied at a boundary, the contexts take the
frame, M takes its value (R35, R64, R105). -/
def framePrep (f : FrameInfo) (n : Nat) (s : State) : State :=
  muteTakes (contextsTake f n (if f.boundary then applyPendingBase s else s))

/-- The limited samples of a frame (R95, R100, R101). -/
def frameLimits (f : FrameInfo) (n : Nat) (s : State) : PerPhase Limited :=
  limitedSamples (contributions f n s.cx.set) f.theta (framePrep f n s)

/-- The work of a frame up to the parts in a free order: plan base, contexts, mute factor, samples and
limits. -/
def frameCore (f : FrameInfo) (n : Nat) (s : State) : State :=
  emit (frameLimits f n s)
    (saturationFlags (rawOutputs (contributions f n s.cx.set) f.theta (framePrep f n s))
      (framePrep f n s))

/-- The work of a presented frame after its classification; `n` contexts take it. A step that completes on
the frame ends after the parts in a free order (R44, R123). -/
def frameWork (p : Presented) (f : FrameInfo) (n : Nat) (s : State) : State :=
  let s1 := frameCore f n s
  let items := frameItems f (takeUpTo f n s.cx.set) (frameLimits f n s) s1
  sendOutput p f.theta (openFlags (contributions f n s.cx.set))
    (endStepIf (f.boundary && ringOccupied s1) (runAll f items s1))

/-- The response of the command that completed on the frame, if any (R148). -/
def respondIfAny (a : Option (Cmd × Answer)) (s : State) : State :=
  match a with
  | some (c, ans) => respond c ans s
  | none => s

/-- A frame is presented: arrival, classification, work, OUTPUT frame, response (R2, R135, R148). -/
def presentFrame (p : Presented) (s : State) : State :=
  let n := s.cx.set.length
  let a := arrival p s
  let t := trackFrame (shownAs p s) a.1
  respondIfAny a.2 (frameWork p t.1 n t.2)

end Sys2Proof.Machine
end

