-- ==== Sys2Proof/Machine/Watch.lean ====
section
/-! DEFINITION. The Current Watch (6.4): over counts, trips, fold-back. -/

namespace Sys2Proof.Machine

/-- One phase of the Current Watch is replaced. -/
def setWatch (p : Phase) (c : CwPhase) (s : State) : State := s.withCw (s.cw.set p c)

/-- A current is over its limit: its magnitude is greater (R110). -/
def isOver (current : Int) (limit : Nat) : Bool := decide (limit < current.natAbs)

/-- The over count after a good MEASUREMENT frame (R110). -/
def overAfter (above : Bool) (count : Nat) : Nat := if above then min (count + 1) 255 else 0

/-- A fold step down, on a frame over on the phase (R113). -/
def foldDown (fold step floor : Nat) : Nat := max (fold - step) floor

/-- A fold step up, on a frame not over on the phase (R113). -/
def foldUp (fold step : Nat) : Nat := min (fold + step) Config.unity

/-- The fold-back step of a TRIPPED phase under FOLDBACK (R113). -/
def foldPhase (p : Phase) (above : Bool) (s : State) : State :=
  let c := s.cw.get p
  if above then setWatch p { c with fold := foldDown c.fold s.par.foldStep s.par.foldFloor } s
  else
    if foldUp c.fold s.par.foldStep = Config.unity then
      raise (.foldbackEnd p) (setWatch p { c with fold := Config.unity, tripped := false } s)
    else setWatch p { c with fold := foldUp c.fold s.par.foldStep } s

/-- The trip action of a TRIPPED phase on a good MEASUREMENT frame after the one it tripped on (R112 to
R114). -/
def trippedStep (p : Phase) (above : Bool) (s : State) : State :=
  match s.par.tripAction with
  | .notify => if above then s else setWatch p { s.cw.get p with tripped := false } s
  | .foldback => foldPhase p above s
  | .safe => s

/-- The action that begins on the trip frame itself: the first fold step, or the call of the safety stop
(R111, R113, R114). -/
def tripActionBegins (p : Phase) (s : State) : State :=
  match s.par.tripAction with
  | .notify => s
  | .foldback => foldPhase p true s
  | .safe => safetyStop (.trip p) s

/-- A NORMAL phase trips: state, flag, notice, marker condition, action (R111, R121). -/
def tripPhase (p : Phase) (s : State) : State :=
  let s1 := setWatch p { s.cw.get p with tripped := true } s
  let s2 := raise (.trip p s1.par.tripAction) (setFlag (.trip p) s1)
  tripActionBegins p (fireMarkers hitTrip s2)

/-- The over count of a phase is brought up to date (R110). -/
def countOver (p : Phase) (above : Bool) (s : State) : State :=
  setWatch p { s.cw.get p with overs := overAfter above (s.cw.get p).overs } s

/-- One phase's share of a good MEASUREMENT frame (R110). -/
def watchPhase (p : Phase) (current : Int) (s : State) : State :=
  let above := isOver current (s.par.ilim.get p)
  let s1 := countOver p above s
  if (s.cw.get p).tripped then trippedStep p above s1
  else if s.par.tripQual ≤ (s1.cw.get p).overs then tripPhase p s1
  else s1

/-- The Current Watch's share of a good MEASUREMENT frame: the phases in the order A, B, C (R110). -/
def watchFrame (i : PerPhase Int) (s : State) : State :=
  watchPhase .c i.c (watchPhase .b i.b (watchPhase .a i.a s))

/-- The phase trips on its next over frame: NORMAL, and its count reaches TRIP_QUAL with it (R111). -/
def tripDue (p : Phase) (s : State) : Bool :=
  !(s.cw.get p).tripped && decide (s.par.tripQual ≤ overAfter true (s.cw.get p).overs)

end Sys2Proof.Machine
end

