-- ==== Sys2Proof/Machine/Links.lean ====
section
/-! DEFINITION. The two receivers and the upstream merge (chapter 8): words and frames on DIN and UIN, link
losses and recoveries, cadence. -/

namespace Sys2Proof.Machine

/-! ### DIN -/

/-- A good COMMAND frame, by its destination (R137). -/
def goodCommandFrame (ws : List Word) (s : State) : State :=
  match headerSub (ws.headD 0) with
  | 0 => offerCommand (readCommand ws) s
  | 1 => offerForward ws s
  | _ => setFlag .cmdCheck s

/-- A frame has arrived on DIN (R133, R135, R137). -/
def dinFrame (ws : List Word) (s : State) : State :=
  if headerType (ws.headD 0) = typeCommand then
    if dinGood ws then goodCommandFrame ws s else setFlag .cmdCheck s
  else if dinGood ws then presentFrame (.good (readSample ws)) s
  else presentFrame .failing s

/-- One word on DIN (R133). -/
def dinWord (w : Word) (s : State) : State :=
  let r := assemble s.dsr.din w
  let s1 := s.withDsr { s.dsr with din := r.1 }
  match r.2 with
  | some ws => dinFrame ws s1
  | none => s1

/-- Words on DIN, in the order they are received (R133). -/
def receiveDin (ws : List Word) (s : State) : State :=
  match ws with
  | [] => s
  | w :: rest => receiveDin rest (dinWord w s)

/-- The downstream link is declared LOST: LINK notice, LINK_DOWN fault, self-frame timer, in this order
(R139). -/
def loseDownstream (s : State) : State :=
  let s1 := s.withDsr { s.dsr with link := .lost true, timer := none }
  let s2 := safetyStop .linkDown (raise (.link false false) s1)
  s2.withDsr { s2.dsr with selfTimer := some Config.cadenceTicks }

/-- The self-frame timer runs out: it restarts, and a self-generated frame is presented (R140). -/
def selfFrame (s : State) : State :=
  presentFrame .selfGenerated
    (s.withDsr { s.dsr with selfTimer := some Config.cadenceTicks })

/-! ### UIN -/

/-- A good frame on UIN restarts the link timer, or ends a loss: UP, the cadence timer stopped, the link
timer started (R143, R144). -/
def upAlive (u : Up) : Up :=
  { u with
    link := .up
    timer := some Config.linkTicks
    cadence := if u.link = .up then u.cadence else none }

/-- A good UIN frame is handled by its type (R142). -/
def handleUin (ws : List Word) (s : State) : State :=
  if headerType (ws.headD 0) = typeMeasurement then passOn ws (watchFrame (readCurrents ws) s)
  else if headerType (ws.headD 0) = typeIdle && reportMayLeave s then sendHeadReport s
  else passOn ws s

/-- The LINK UP notice of an upstream recovery meets what the frame itself brings: an IDLE frame may carry a
report, a MEASUREMENT frame may raise notices. Which comes first is open (R142, R144, R164; log 9). What the frame brings
is taken whole: DESIGN CHOICE (log 9). -/
def recoveryOrderOpen (ws : List Word) (s : State) : Bool :=
  s.up.link == .lost true && headerType (ws.headD 0) != typeStageReport

/-- A good frame on UIN (R142 to R144). -/
def goodUinFrame (ws : List Word) (s : State) : State :=
  let s1 := s.withUp (upAlive s.up)
  if recoveryOrderOpen ws s then
    let o := chooseFirst s1
    if o.1 then handleUin ws (raise (.link true true) o.2)
    else raise (.link true true) (handleUin ws o.2)
  else handleUin ws (raiseIf (s.up.link == .lost true) (.link true true) s1)

/-- A frame has arrived on UIN; a failing one sets MEAS_CHECK where its header names MEASUREMENT, and is
passed on (R133, R142). -/
def uinFrame (ws : List Word) (s : State) : State :=
  if uinGood ws then goodUinFrame ws s
  else passOn ws (setFlagIf (headerType (ws.headD 0) == typeMeasurement) .measCheck s)

/-- One word on UIN (R133). -/
def uinWord (w : Word) (s : State) : State :=
  let r := assemble s.up.uin w
  let s1 := s.withUp { s.up with uin := r.1 }
  match r.2 with
  | some ws => uinFrame ws s1
  | none => s1

/-- Words on UIN, in the order they are received (R133). -/
def receiveUin (ws : List Word) (s : State) : State :=
  match ws with
  | [] => s
  | w :: rest => receiveUin rest (uinWord w s)

/-- The fault of an upstream loss: none under NOTIFY (R143). -/
def upstreamFault (s : State) : State :=
  match s.par.tripAction with
  | .notify => s
  | .foldback => safetyStop .linkUpLost s
  | .safe => safetyStop .linkUpLost s

/-- The upstream link is declared LOST: LINK notice, fault, cadence timer, in this order (R143). -/
def loseUpstream (s : State) : State :=
  let s1 := s.withUp { s.up with link := .lost true, timer := none }
  let s2 := upstreamFault (raise (.link true false) s1)
  s2.withUp { s2.up with cadence := some Config.cadenceTicks }

/-- The upstream cadence timer runs out: it restarts, and the head report is sent if it may leave
(R143). -/
def cadenceExpires (s : State) : State :=
  let s1 := s.withUp { s.up with cadence := some Config.cadenceTicks }
  if reportMayLeave s1 then sendHeadReport s1 else s1

/-! ### When a timer runs out -/

/-- A timer that the present tick brings to 0. -/
def runsOut (t : Option Nat) : Bool :=
  match t with
  | some n => n ≤ 1
  | none => false

/-- A timer after a tick that does not bring it to 0; one that runs out is left to its event. -/
def timerTick (t : Option Nat) : Option Nat :=
  match t with
  | some n => if n ≤ 1 then some n else some (n - 1)
  | none => none

/-- The downstream link timer runs out on this tick (R139). -/
def downLossDue (s : State) : Bool := s.dsr.link == .up && runsOut s.dsr.timer

/-- The self-frame timer runs out on this tick (R140). -/
def selfFrameDue (s : State) : Bool := s.dsr.link != .up && runsOut s.dsr.selfTimer

/-- The upstream link timer runs out on this tick (R143). -/
def upLossDue (s : State) : Bool := s.up.link == .up && runsOut s.up.timer

/-- The upstream cadence timer runs out on this tick (R143). -/
def cadenceDue (s : State) : Bool := s.up.link != .up && runsOut s.up.cadence

end Sys2Proof.Machine
end

