-- ==== Sys2Proof/Machine/Sync.lean ====
section
/-! DEFINITION. The sync qualifier (7.8): sampling of SYNC_IN, edges, sync events. -/

namespace Sys2Proof.Machine

/-- The other level of a line. -/
def otherLevel (l : Level) : Level :=
  match l with
  | .low => .high
  | .high => .low

/-- A sample of this level qualifies a new level: it differs from the qualified one and the count after
the increase is at least SYNC_QUAL (R127). -/
def edgeDue (level : Level) (s : State) : Bool :=
  level != s.mku.syncLevel && decide (s.par.syncQual ≤ s.mku.syncCount + 1)

/-- The qualification count after a sample that makes no edge (R127). -/
def countSample (level : Level) (s : State) : State :=
  if level = s.mku.syncLevel then s.withMku { s.mku with syncCount := 0 }
  else s.withMku { s.mku with syncCount := s.mku.syncCount + 1 }

/-- The direction of an edge to a level matches SYNC_EDGE (R128). -/
def edgeMatches (edge : SyncEdge) (newLevel : Level) : Bool :=
  match edge with
  | .rising => newLevel == .high
  | .falling => newLevel == .low
  | .both => true

/-- A qualified sync event: first to the Scheduler, then to the SYNC markers (R128). -/
def syncEvent (s : State) : State := fireMarkers hitSync (syncAtScheduler s)

/-- An edge: the qualified level changes, the count returns to 0, and a matching edge is a sync event
(R127, R128). -/
def takeEdge (s : State) : State :=
  let level := otherLevel s.mku.syncLevel
  let s1 := s.withMku { s.mku with syncLevel := level, syncCount := 0 }
  if edgeMatches s.par.syncEdge level then syncEvent s1 else s1

end Sys2Proof.Machine
end

