-- ==== Sys2Proof/Machine/Ticks.lean ====
section
/-! DEFINITION. The microsecond tick (0.11, R122, R127, R139, R140, R143): sampling of SYNC_IN, the trigger
timer, the link, self-frame and cadence timers, and what comes about where one of them runs out. -/

namespace Sys2Proof.Machine

/-- What a tick brings about; the parts of one tick meet in an open order (log 8). -/
inductive TickPart where
  | pulse
  /-- a held response takes a place that became free in the instant before (R149; log 10) -/
  | held
  | edge
  | downLoss
  | selfFrame
  | upLoss
  | cadence
  deriving DecidableEq, Repr

/-- The timers after the tick, but for those that run out (R139, R140, R143). A timer counts only in the
link state that runs it. -/
def timersTick (s : State) : State :=
  let s1 := s.withDsr
    { s.dsr with
      timer := if s.dsr.link = .up then timerTick s.dsr.timer else s.dsr.timer
      selfTimer := if s.dsr.link = .up then s.dsr.selfTimer else timerTick s.dsr.selfTimer }
  s1.withUp
    { s.up with
      timer := if s.up.link = .up then timerTick s.up.timer else s.up.timer
      cadence := if s.up.link = .up then s.up.cadence else timerTick s.up.cadence }

/-- What comes about on this tick, beside the trigger timer: a held response that has a place, and the
counts that run out. -/
def dueParts (level : Level) (s : State) : List TickPart :=
  (if heldHasPlace s then [.held] else []) ++
  (if edgeDue level s then [.edge] else []) ++
  (if downLossDue s then [.downLoss] else []) ++
  (if selfFrameDue s then [.selfFrame] else []) ++
  (if upLossDue s then [.upLoss] else []) ++
  (if cadenceDue s then [.cadence] else [])

/-- The parts of this tick: the trigger timer takes part where a pulse runs or a request may come on the
same tick (R122). -/
def tickParts (level : Level) (s : State) : List TickPart :=
  if s.mku.pulse = 0 ∧ dueParts level s = [] then [] else .pulse :: dueParts level s

/-- One part of a tick. -/
def doTickPart (p : TickPart) (s : State) : State :=
  match p with
  | .pulse => pulseTick s
  | .held => placeHeld s
  | .edge => takeEdge s
  | .downLoss => loseDownstream s
  | .selfFrame => selfFrame s
  | .upLoss => loseUpstream s
  | .cadence => cadenceExpires s

/-- The parts of a tick in a free order; the number bounds them. -/
def runTick (n : Nat) (parts : List TickPart) (s : State) : State :=
  match n, parts with
  | 0, _ => s
  | _ + 1, [] => s
  | k + 1, [x] => runTick k [] (doTickPart x s)
  | k + 1, x :: y :: rest =>
    let c := choose (rest.length + 2) s
    runTick k ((x :: y :: rest).eraseIdx c.1) (doTickPart ((x :: y :: rest).getD c.1 x) c.2)

/-- The qualification count of a tick that makes no edge (R127). -/
def sampleSync (level : Level) (s : State) : State :=
  if edgeDue level s then s else countSample level s

/-- A whole microsecond tick with the level of SYNC_IN (log 4). -/
def tick (level : Level) (s : State) : State :=
  let parts := tickParts level s
  runTick parts.length parts (timersTick (sampleSync level s))

end Sys2Proof.Machine
end

