-- ==== Sys2Proof/Machine/RowsEvents.lean ====
section
/-! DEFINITION. The meanings of the rows that name an event inside one block: SYNC_IN_EDGE, PULSE_END, TRIP,
the events of one context, the ends of the mute ramps. Each is the owning block's share of the step on
which the event falls, the increment that reaches it included; where the event is not due nothing comes
about (log 1, log 2). -/

namespace Sys2Proof.Machine

/-- SYNC_IN_EDGE (R127, R128): the sample that qualifies the other level. -/
def execSyncInEdge (s : State) : Host.Outcome State Fault Refusal :=
  .next (if edgeDue (otherLevel s.mku.syncLevel) s then takeEdge s else s)

/-- PULSE_END (R122): the tick that brings the pulse remaining to 0. -/
def execPulseEnd (s : State) : Host.Outcome State Fault Refusal :=
  .next (if s.mku.pulse = 1 then pulseTick s else s)

/-- TRIP of a phase (R111): the frame over on it whose count reaches TRIP_QUAL (log 23). -/
def execTrip (phase : Phase) (s : State) : Host.Outcome State Fault Refusal :=
  .next (if tripDue phase s then tripPhase phase (countOver phase true s) else s)

/-! ### Events of one context (log 25) -/

/-- One context takes the present frame, and what follows from it comes about (R64). -/
def contextTakes (f : FrameInfo) (c : Ctx) (s : State) : State :=
  let r := takeFrame f c
  let s1 := s.withCx { s.cx with set := replaceCtx s.cx.set c.index r.1 }
  runAll f (itemsOf s1 r) (setFlagIf (r.2 == .start true) .startLate s1)

/-- The context of an index takes a frame where its event is due on that frame. -/
def contextEvent (f : FrameInfo) (due : Ctx → Bool) (index : Nat) (s : State) : State :=
  match findCtx s.cx.set index with
  | none => s
  | some c => if due c then contextTakes f c s else s

/-- A late start falls on this frame: in WAIT, the boundary count reaches 2 and the start angle is not
crossed (R66). -/
def lateStartDue (f : FrameInfo) (c : Ctx) : Bool :=
  c.life == .wait && f.boundary && decide (2 ≤ c.bounds + 1) && !crosses f c.snap.alpha

/-- The gap is complete on this boundary (R74). -/
def gapEndDue (f : FrameInfo) (c : Ctx) : Bool :=
  c.life == .gap && f.boundary && decide (c.snap.gap ≤ c.bounds + 1)

/-- The ramp-in reaches its last frame (R68). -/
def rampInEndDue (c : Ctx) : Bool := c.life == .rampIn && decide (c.snap.rampIn ≤ c.stepCount + 1)

/-- The ramp-out reaches its last frame (R69). -/
def rampOutEndDue (c : Ctx) : Bool := c.life == .rampOut && decide (c.snap.rampOut ≤ c.stepCount + 1)

/-- The flicker count reaches the half-period (R71). -/
def flickerHalfDue (c : Ctx) : Bool :=
  c.life == .hold && c.snap.kind == .flicker && decide (c.snap.half ≤ c.flickCount + 1)

/-- LATE_START of one context (R66). -/
def execLateStart (index : Nat) (s : State) : Host.Outcome State Fault Refusal :=
  .next (contextEvent (presentFrameInfo .boundary s) (lateStartDue (presentFrameInfo .boundary s)) index s)

/-- GAP_END of one context (R74). -/
def execGapEnd (index : Nat) (s : State) : Host.Outcome State Fault Refusal :=
  .next (contextEvent (presentFrameInfo .boundary s) (gapEndDue (presentFrameInfo .boundary s)) index s)

/-- RAMP_IN_END of one context (R68). -/
def execRampInEnd (index : Nat) (s : State) : Host.Outcome State Fault Refusal :=
  .next (contextEvent (presentFrameInfo .advance s) rampInEndDue index s)

/-- RAMP_OUT_END of one context (R69, R73). -/
def execRampOutEnd (index : Nat) (s : State) : Host.Outcome State Fault Refusal :=
  .next (contextEvent (presentFrameInfo .advance s) rampOutEndDue index s)

/-- FLICKER_HALF_CHANGE of one context (R71). -/
def execFlickerHalfChange (index : Nat) (s : State) : Host.Outcome State Fault Refusal :=
  .next (contextEvent (presentFrameInfo .advance s) flickerHalfDue index s)

/-! ### Ends of the mute ramps (R105) -/

/-- The frame is the thirty-second of the ramp of a mute state (R105). -/
def muteRampDue (m : Mute) (s : State) : Bool :=
  s.lmu.mute == m && decide (Config.muteFrames ≤ s.lmu.rampStep + 1)

/-- MUTE_RAMP_END (R105). -/
def execMuteRampEnd (s : State) : Host.Outcome State Fault Refusal :=
  .next (if muteRampDue .muting s then muteTakes s else s)

/-- UNMUTE_RAMP_END (R105). -/
def execUnmuteRampEnd (s : State) : Host.Outcome State Fault Refusal :=
  .next (if muteRampDue .unmuting s then muteTakes s else s)

end Sys2Proof.Machine
end

