-- ==== Sys2Proof/Machine/RowsLinks.lean ====
section
/-! DEFINITION. The meanings of the rows of reset, links and clock: POWER_ON_RESET, the frames on DIN and
UIN, the sending on DOUT and UOUT, the losses, the cadence, HELD_RESPONSE_PLACED, MICROSECOND_TICK. -/

namespace Sys2Proof.Machine

/-- The state after the assertion of RESET_N: every item at its value after power-on reset (R132, R152); the
two fields that are the model's own are kept (log 11). -/
def powerOn (s : State) : State :=
  { State.reset with freeCount := s.freeCount, pending := s.pending }

/-- POWER_ON_RESET (R132). -/
def execPowerOnReset (s : State) : Host.Outcome State Fault Refusal := .next (powerOn s)

/-- SAMPLE_FRAME (R133, R135): the words arrive on DIN. -/
def execSampleFrame (words : List Word) (s : State) : Host.Outcome State Fault Refusal :=
  .next (receiveDin words s)

/-- COMMAND_FRAME (R133, R137): the words arrive on DIN. -/
def execCommandFrame (words : List Word) (s : State) : Host.Outcome State Fault Refusal :=
  .next (receiveDin words s)

/-- SELF_GENERATED_FRAME (R140): the self-frame timer runs out (log 2). -/
def execSelfGeneratedFrame (s : State) : Host.Outcome State Fault Refusal :=
  .next (if selfFrameDue s then selfFrame s else s)

/-- DOWNSTREAM_LINK_LOSS (R139): the downstream link timer runs out (log 2). -/
def execDownstreamLinkLoss (s : State) : Host.Outcome State Fault Refusal :=
  .next (if downLossDue s then loseDownstream s else s)

/-- DOUT_FRAME_SENT (R136, R138): DOUT ends the sending of a frame. -/
def execDoutFrameSent (s : State) : Host.Outcome State Fault Refusal :=
  .next (s.withDsr (doutEnds s.dsr))

/-- MEASUREMENT_FRAME (R110, R133, R142): the words arrive on UIN. -/
def execMeasurementFrame (words : List Word) (s : State) : Host.Outcome State Fault Refusal :=
  .next (receiveUin words s)

/-- STAGE_REPORT_FRAME (R133, R142): the words arrive on UIN. -/
def execStageReportFrame (words : List Word) (s : State) : Host.Outcome State Fault Refusal :=
  .next (receiveUin words s)

/-- IDLE_FRAME (R133, R142): the words arrive on UIN. -/
def execIdleFrame (words : List Word) (s : State) : Host.Outcome State Fault Refusal :=
  .next (receiveUin words s)

/-- FAILING_UIN_FRAME (R133, R142): the words arrive on UIN. -/
def execFailingUinFrame (words : List Word) (s : State) : Host.Outcome State Fault Refusal :=
  .next (receiveUin words s)

/-- UPSTREAM_LINK_LOSS (R143): the upstream link timer runs out (log 2). -/
def execUpstreamLinkLoss (s : State) : Host.Outcome State Fault Refusal :=
  .next (if upLossDue s then loseUpstream s else s)

/-- UPSTREAM_CADENCE_EXPIRY (R143): the upstream cadence timer runs out (log 2). -/
def execUpstreamCadenceExpiry (s : State) : Host.Outcome State Fault Refusal :=
  .next (if cadenceDue s then cadenceExpires s else s)

/-- UOUT_FRAME_SENT (R142): UOUT ends the sending of a frame. -/
def execUoutFrameSent (s : State) : Host.Outcome State Fault Refusal := .next (uoutEnds s)

/-- HELD_RESPONSE_PLACED (R149): a held response takes a place that has become free (log 10). -/
def execHeldResponsePlaced (s : State) : Host.Outcome State Fault Refusal := .next (placeHeld s)

/-- MICROSECOND_TICK (R127): a whole tick with the level of SYNC_IN (log 4). -/
def execMicrosecondTick (syncIn : Level) (s : State) : Host.Outcome State Fault Refusal :=
  .next (tick syncIn s)

end Sys2Proof.Machine
end

