-- ==== Sys2Proof/Machine/Dispatch.lean ====
section
/-! DEFINITION. One arm for every row of the table. -/

namespace Sys2Proof.Machine

def exec (i : Instr) (s : State) : Host.Outcome State Fault Refusal :=
  match i with
  | .powerOnReset => Sys2Proof.Machine.execPowerOnReset s
  | .sampleFrame words => Sys2Proof.Machine.execSampleFrame words s
  | .commandFrame words => Sys2Proof.Machine.execCommandFrame words s
  | .selfGeneratedFrame => Sys2Proof.Machine.execSelfGeneratedFrame s
  | .downstreamLinkLoss => Sys2Proof.Machine.execDownstreamLinkLoss s
  | .doutFrameSent => Sys2Proof.Machine.execDoutFrameSent s
  | .measurementFrame words => Sys2Proof.Machine.execMeasurementFrame words s
  | .stageReportFrame words => Sys2Proof.Machine.execStageReportFrame words s
  | .idleFrame words => Sys2Proof.Machine.execIdleFrame words s
  | .upstreamLinkLoss => Sys2Proof.Machine.execUpstreamLinkLoss s
  | .upstreamCadenceExpiry => Sys2Proof.Machine.execUpstreamCadenceExpiry s
  | .uoutFrameSent => Sys2Proof.Machine.execUoutFrameSent s
  | .syncInEdge => Sys2Proof.Machine.execSyncInEdge s
  | .pulseEnd => Sys2Proof.Machine.execPulseEnd s
  | .trip phase => Sys2Proof.Machine.execTrip phase s
  | .lateStart index => Sys2Proof.Machine.execLateStart index s
  | .gapEnd index => Sys2Proof.Machine.execGapEnd index s
  | .rampInEnd index => Sys2Proof.Machine.execRampInEnd index s
  | .rampOutEnd index => Sys2Proof.Machine.execRampOutEnd index s
  | .flickerHalfChange index => Sys2Proof.Machine.execFlickerHalfChange index s
  | .muteRampEnd => Sys2Proof.Machine.execMuteRampEnd s
  | .unmuteRampEnd => Sys2Proof.Machine.execUnmuteRampEnd s
  | .heldResponsePlaced => Sys2Proof.Machine.execHeldResponsePlaced s
  | .identify tag payload => Sys2Proof.Machine.execIdentify tag payload s
  | .getStatus tag payload => Sys2Proof.Machine.execGetStatus tag payload s
  | .takeFlags tag payload => Sys2Proof.Machine.execTakeFlags tag payload s
  | .getParam tag payload => Sys2Proof.Machine.execGetParam tag payload s
  | .setParam tag payload => Sys2Proof.Machine.execSetParam tag payload s
  | .setPlanBase tag value => Sys2Proof.Machine.execSetPlanBase tag value s
  | .setTripAction tag value => Sys2Proof.Machine.execSetTripAction tag value s
  | .setFoldFloor tag value => Sys2Proof.Machine.execSetFoldFloor tag value s
  | .resetEngine tag payload => Sys2Proof.Machine.execResetEngine tag payload s
  | .writeDesc tag payload => Sys2Proof.Machine.execWriteDesc tag payload s
  | .readDesc tag payload => Sys2Proof.Machine.execReadDesc tag payload s
  | .eraseDesc tag payload => Sys2Proof.Machine.execEraseDesc tag payload s
  | .writeSlots tag payload => Sys2Proof.Machine.execWriteSlots tag payload s
  | .readSlots tag payload => Sys2Proof.Machine.execReadSlots tag payload s
  | .run tag payload => Sys2Proof.Machine.execRun tag payload s
  | .stepSlot tag payload => Sys2Proof.Machine.execStepSlot tag payload s
  | .halt tag payload => Sys2Proof.Machine.execHalt tag payload s
  | .abort tag payload => Sys2Proof.Machine.execAbort tag payload s
  | .clearFault tag payload => Sys2Proof.Machine.execClearFault tag payload s
  | .setCycle tag payload => Sys2Proof.Machine.execSetCycle tag payload s
  | .arm tag payload => Sys2Proof.Machine.execArm tag payload s
  | .readContexts tag payload => Sys2Proof.Machine.execReadContexts tag payload s
  | .setMarker tag payload => Sys2Proof.Machine.execSetMarker tag payload s
  | .readMarkers tag payload => Sys2Proof.Machine.execReadMarkers tag payload s
  | .undefinedCommandCode code tag payload => Sys2Proof.Machine.execUndefinedCommandCode code tag payload s
  | .microsecondTick syncIn => Sys2Proof.Machine.execMicrosecondTick syncIn s
  | .failingUinFrame words => Sys2Proof.Machine.execFailingUinFrame words s

end Sys2Proof.Machine
end

