-- ==== Sys2Proof/Safety.lean ====
section
/-! DEFINITION. What the statements speak of: the invariants of the block, what it means that a command is
answered, whole good frames, and the results the chapters give for the events of one context. -/

namespace Sys2Proof.Safety

open Sys2Proof.Machine

/-! ### Invariants -/

/-- The queues hold no more than they can, an IDLE executor leaves no command waiting, and what a HOLDING one
holds is a response (R136, R142, R146, R147, R162). The words that wait for UOUT are bounded through those of one report, which READ_CONTEXTS makes
longest with 8 contexts (R61, R82). -/
def QueuesFit (s : State) : Prop :=
  s.rpq.queue.length ≤ 8 ∧ noticeCount s.rpq.queue ≤ 6 ∧
  (∀ r, r ∈ s.rpq.queue ∨ s.cmx.exec = .holding r → r.words.length ≤ 117) ∧
  (∀ r, s.cmx.exec = .holding r → r.notice = false) ∧
  s.cx.set.length ≤ 8 ∧ waitingWords s.up.outList ≤ 512 ∧
  s.cmx.buffer.length ≤ 2 ∧ (s.cmx.exec = .idle → s.cmx.buffer = []) ∧
  s.dsr.outList.length ≤ 8 ∧ (s.dsr.sending = .nothing → s.dsr.outList = []) ∧
  (s.up.sending = none → s.up.outList = [])

/-- Descriptor Table and Cycle Ring are in the canonical form (R16, R37; log 18). -/
def TablesCanonical (s : State) : Prop := tableWf 256 s.edt = true ∧ tableWf 512 s.ring = true

/-- The active set: at most 8 contexts, no two from one index, none in FAULTED (R61, R48). -/
def ActiveSetLegal (s : State) : Prop :=
  s.cx.set.length ≤ 8 ∧ (s.cx.set.map (·.index)).Nodup ∧ (s.sch.state = .faulted → s.cx.set = [])

/-- The mute state and its factor: a mute ramp or MUTED in FAULTED alone, and M as the state gives it (R99,
R105 to R107). -/
def MuteLegal (s : State) : Prop :=
  (s.sch.state = .faulted ↔ s.lmu.mute = .muting ∨ s.lmu.mute = .muted) ∧
  s.lmu.factor ≤ 16384 ∧ s.lmu.rampStart ≤ 16384 ∧ s.lmu.rampStep < 32 ∧
  (s.lmu.mute = .unmuted → s.lmu.factor = 16384) ∧ (s.lmu.mute = .muted → s.lmu.factor = 0)

/-- The numeric parameters are in the ranges of R157. -/
def ParamsInRange (s : State) : Prop :=
  (∀ p, s.par.peak.get p ≤ 131071) ∧
  (∀ p, 1 ≤ s.par.slew.get p ∧ s.par.slew.get p ≤ 262143) ∧
  (∀ p, s.par.offset.get p ≤ 65535) ∧ (∀ p, s.par.ilim.get p ≤ 131071) ∧
  (1 ≤ s.par.tripQual ∧ s.par.tripQual ≤ 255) ∧ (1 ≤ s.par.foldStep ∧ s.par.foldStep ≤ 4096) ∧
  s.par.foldFloor ≤ 16384 ∧ (1 ≤ s.par.syncQual ∧ s.par.syncQual ≤ 255) ∧
  (∀ o, s.par.syncOffset = some o → o ≤ 255)

/-- Each fold-back gain lies between the floor in force and 16384 (R109). -/
def FoldLegal (s : State) : Prop :=
  ParamsInRange s ∧ ∀ p, s.par.foldFloor ≤ (s.cw.get p).fold ∧ (s.cw.get p).fold ≤ 16384

/-- A running timer has between 1 and `top` ticks left. -/
def Runs (t : Option Nat) (top : Nat) : Prop := ∃ n, t = some n ∧ 1 ≤ n ∧ n ≤ top

/-- The link timers run while their link is UP, the self-frame and cadence timers while it is LOST (R139,
R140, R143), and an UP downstream link has an angle (R1, R5). -/
def LinksLegal (s : State) : Prop :=
  (s.dsr.link = .up → Runs s.dsr.timer 160 ∧ s.dsr.selfTimer = none ∧ s.ant.thetaP.isSome = true) ∧
  (s.dsr.link ≠ .up → s.dsr.timer = none ∧ Runs s.dsr.selfTimer 20) ∧
  (s.up.link = .up → Runs s.up.timer 160 ∧ s.up.cadence = none) ∧
  (s.up.link ≠ .up → s.up.timer = none ∧ Runs s.up.cadence 20)

/-- The items of the Angle Tracker are in the ranges of R1. -/
def AnglesLegal (s : State) : Prop :=
  (∀ a, s.ant.thetaP = some a → a < 65536) ∧ s.ant.lastStep < 65536 ∧ s.ant.cycle < 65536 ∧
  s.ant.start < 65536 ∧ s.ant.step < 65536

/-! ### A command answered -/

/-- The executor can carry the command out: it is IDLE or has taken this very command (log 3). -/
def Takes (c : Cmd) (s : State) : Prop := s.cmx.exec = .idle ∨ s.cmx.exec = .executing c

/-- Command Buffer and executor once a response has joined the queue (R147). -/
def afterResponse (buffer : List Cmd) : Cmx :=
  match buffer with
  | [] => { buffer := [], exec := .idle }
  | c :: rest => { buffer := rest, exec := .executing c }

/-- The response of a command is formed in the state `s`: it joins the tail of a queue of fewer than 8
reports, and otherwise the executor holds it (R149). -/
def answered (c : Cmd) (st : Status) (payload : List Word) (s : State) : State :=
  if s.rpq.queue.length < 8 then
    { s with
      rpq :=
        { s.rpq with
          queue := s.rpq.queue ++ [{ notice := false, words := responseFrame c.code c.tag st payload }] }
      cmx := afterResponse s.cmx.buffer }
  else
    { s with
      cmx :=
        { s.cmx with
          exec := .holding { notice := false, words := responseFrame c.code c.tag st payload } } }

/-- The command as its row carries it. -/
def commandOf (i : Instr) : Option Cmd :=
  match i with
  | .identify tag payload => some ⟨codeIdentify, tag, payload⟩
  | .getStatus tag payload => some ⟨codeGetStatus, tag, payload⟩
  | .takeFlags tag payload => some ⟨codeTakeFlags, tag, payload⟩
  | .getParam tag payload => some ⟨codeGetParam, tag, payload⟩
  | .setParam tag payload => some ⟨codeSetParam, tag, payload⟩
  | .setPlanBase tag value => some ⟨codeSetParam, tag, [9, value]⟩
  | .setTripAction tag value => some ⟨codeSetParam, tag, [14, value]⟩
  | .setFoldFloor tag value => some ⟨codeSetParam, tag, [16, value]⟩
  | .resetEngine tag payload => some ⟨codeResetEngine, tag, payload⟩
  | .writeDesc tag payload => some ⟨codeWriteDesc, tag, payload⟩
  | .readDesc tag payload => some ⟨codeReadDesc, tag, payload⟩
  | .eraseDesc tag payload => some ⟨codeEraseDesc, tag, payload⟩
  | .writeSlots tag payload => some ⟨codeWriteSlots, tag, payload⟩
  | .readSlots tag payload => some ⟨codeReadSlots, tag, payload⟩
  | .run tag payload => some ⟨codeRun, tag, payload⟩
  | .stepSlot tag payload => some ⟨codeStep, tag, payload⟩
  | .halt tag payload => some ⟨codeHalt, tag, payload⟩
  | .abort tag payload => some ⟨codeAbort, tag, payload⟩
  | .clearFault tag payload => some ⟨codeClearFault, tag, payload⟩
  | .setCycle tag payload => some ⟨codeSetCycle, tag, payload⟩
  | .arm tag payload => some ⟨codeArm, tag, payload⟩
  | .readContexts tag payload => some ⟨codeReadContexts, tag, payload⟩
  | .setMarker tag payload => some ⟨codeSetMarker, tag, payload⟩
  | .readMarkers tag payload => some ⟨codeReadMarkers, tag, payload⟩
  | .powerOnReset => none
  | .sampleFrame _ => none
  | .commandFrame _ => none
  | .selfGeneratedFrame => none
  | .downstreamLinkLoss => none
  | .doutFrameSent => none
  | .measurementFrame _ => none
  | .stageReportFrame _ => none
  | .idleFrame _ => none
  | .upstreamLinkLoss => none
  | .upstreamCadenceExpiry => none
  | .uoutFrameSent => none
  | .syncInEdge => none
  | .pulseEnd => none
  | .trip _ => none
  | .lateStart _ => none
  | .gapEnd _ => none
  | .rampInEnd _ => none
  | .rampOutEnd _ => none
  | .flickerHalfChange _ => none
  | .muteRampEnd => none
  | .unmuteRampEnd => none
  | .heldResponsePlaced => none
  | .undefinedCommandCode _ _ _ => none
  | .microsecondTick _ => none
  | .failingUinFrame _ => none

/-! ### Whole frames (R133) -/

/-- A whole good frame of a type for DIN, arriving where the DSR expects a header (R133, R170). -/
def WholeGoodDin (type : Nat) (ws : List Word) (s : State) : Prop :=
  oneFrame ws = true ∧ dinGood ws = true ∧ headerType (ws.headD 0) = type ∧ s.dsr.din = .header

/-- A whole failing frame on DIN, arriving where the DSR expects a header (R133). -/
def WholeFailingDin (ws : List Word) (s : State) : Prop :=
  oneFrame ws = true ∧ dinGood ws = false ∧ s.dsr.din = .header

/-- A whole good frame of a type for UIN, arriving where the merge expects a header (R133, R170). -/
def WholeGoodUin (type : Nat) (ws : List Word) (s : State) : Prop :=
  oneFrame ws = true ∧ uinGood ws = true ∧ headerType (ws.headD 0) = type ∧ s.up.uin = .header

/-- A whole failing frame on UIN, arriving where the merge expects a header (R133). -/
def WholeFailingUin (ws : List Word) (s : State) : Prop :=
  oneFrame ws = true ∧ uinGood ws = false ∧ s.up.uin = .header

/-- No command completes on the next presented frame. -/
def NoCommand (s : State) : Prop := ∀ c, s.cmx.exec ≠ .executing c

/-- The tracker after a frame compared with theta_p, by the table of R6 and R7. -/
def antCompared (thetaP thetaC : Nat) (good : Bool) (a : Ant) : Ant :=
  if 49152 ≤ thetaP ∧ thetaC < 16384 then
    { thetaP := some thetaC
      lastStep := if good then thetaC + 65536 - thetaP else a.lastStep
      cycle := (a.cycle + 1) % 65536
      start := thetaP
      step := thetaC + 65536 - thetaP }
  else if thetaP ≤ thetaC then
    { thetaP := some thetaC
      lastStep := if good then thetaC - thetaP else a.lastStep
      cycle := a.cycle
      start := thetaP
      step := thetaC - thetaP }
  else
    { thetaP := some thetaC
      lastStep := if good then 0 else a.lastStep
      cycle := a.cycle
      start := thetaP
      step := 0 }

/-- The tracker after an extrapolated or UNESTABLISHED frame (R3, R4). -/
def antHeld (a : Ant) : Ant :=
  match a.thetaP with
  | none => { a with start := 0, step := 0 }
  | some thetaP => antCompared thetaP ((thetaP + a.lastStep) % 65536) false a

/-- A frame on UIN takes its place for UOUT: at once where UOUT is silent, at the tail of the list where it
does not take the list past 512 words, and nowhere otherwise (R142). -/
def forwarded (ws : List Word) (u : Up) : Up :=
  if u.sending.isNone then { u with sending := some ws }
  else if (u.outList.map List.length).sum + ws.length ≤ 512 then { u with outList := u.outList ++ [ws] }
  else u

/-- A report takes its place for UOUT (R142, R143). -/
def placed (ws : List Word) (u : Up) : Up :=
  if u.sending.isNone then { u with sending := some ws } else { u with outList := u.outList ++ [ws] }

/-- The upstream link after a good frame on UIN: UP, its timer at 160, no cadence once a loss has ended
(R143, R144). -/
def alive (u : Up) : Up :=
  { u with
    link := .up
    timer := some 160
    cadence := if u.link = .up then u.cadence else none }

/-- A place of the Report Queue has just become free in the state `s`: a HOLDING executor places its response
at once, or what else falls in the same instant comes first (R149, R164; log 10). -/
def PlaceFreed (s t : State) : Prop :=
  match s.cmx.exec with
  | .holding r =>
    t = { s with freeCount := s.freeCount + 1 } ∨
    (s.rpq.queue.length < 8 ∧
      t =
        { s with
          freeCount := s.freeCount + 1
          rpq := { s.rpq with queue := s.rpq.queue ++ [r] }
          cmx := afterResponse s.cmx.buffer })
  | _ => t = s

/-- A good IDLE frame is replaced by the head report where the transmit list is empty, and passed on
otherwise (R142). -/
def IdleHandled (ws : List Word) (s t : State) : Prop :=
  match s.rpq.queue with
  | [] => t = { s with up := forwarded ws s.up }
  | r :: rest =>
    (s.up.outList = [] →
      PlaceFreed { s with up := placed r.words s.up, rpq := { s.rpq with queue := rest } } t) ∧
    (s.up.outList ≠ [] → t = { s with up := forwarded ws s.up })

/-- What DOUT holds once an OUTPUT frame has been handed to it, with the stored frame that follows it
(R136, R138). -/
def handed (ws : List Word) (d : Dsr) : DoutSending × List DoutEntry :=
  let entry : DoutEntry := { output := ws, forward := if d.slotHanded then none else d.slot }
  if d.sending = .nothing then (.output entry, d.outList)
  else if d.outList.length < 8 then (d.sending, d.outList ++ [entry])
  else (d.sending, d.outList)

/-! ### Faults and the Current Watch -/

/-- The details of a fault taken now (R50). -/
def faultDetails (c : FaultCause) (s : State) : FaultRecord :=
  { cause := c, cycle := s.ant.cycle, angle := s.ant.thetaP.getD 0 }

/-- The state a call of the safety stop leaves, beside its FAULT notice (R48, R50, R106). -/
def faulted (c : FaultCause) (s : State) : State :=
  if s.sch.state = .faulted then
    { s with sch := { s.sch with fault := s.sch.fault.or (some (faultDetails c s)) } }
  else
    { s with
      sch := { s.sch with state := .faulted, fault := s.sch.fault.or (some (faultDetails c s)) }
      cx := { s.cx with set := [] }
      lmu := { s.lmu with mute := .muting, rampStart := s.lmu.factor, rampStep := 0 } }

/-- The over count of a phase after a good MEASUREMENT frame (R110). -/
def countAfter (above : Bool) (n : Nat) : Nat := if above then (if n < 255 then n + 1 else 255) else 0

/-- The phase trips on a good MEASUREMENT frame (R111). -/
def trips (above : Bool) (par : Params) (c : CwPhase) : Bool :=
  !c.tripped && decide (par.tripQual ≤ countAfter above c.overs)

/-- A fold step down (R113). -/
def stepDown (par : Params) (fold : Nat) : Nat :=
  if par.foldFloor + par.foldStep ≤ fold then fold - par.foldStep else par.foldFloor

/-- A fold step up (R113). -/
def stepUp (par : Params) (fold : Nat) : Nat :=
  if fold + par.foldStep ≤ 16384 then fold + par.foldStep else 16384

/-- A phase of the Current Watch after a good MEASUREMENT frame (R110 to R114). -/
def watched (above : Bool) (par : Params) (c : CwPhase) : CwPhase :=
  let n := countAfter above c.overs
  if c.tripped then
    match par.tripAction with
    | .notify => { c with overs := n, tripped := above }
    | .foldback =>
      if above then { c with overs := n, fold := stepDown par c.fold }
      else { overs := n, fold := stepUp par c.fold, tripped := decide (stepUp par c.fold ≠ 16384) }
    | .safe => { c with overs := n }
  else if par.tripQual ≤ n then
    match par.tripAction with
    | .notify => { c with overs := n, tripped := true }
    | .foldback => { overs := n, tripped := true, fold := stepDown par c.fold }
    | .safe => { c with overs := n, tripped := true }
  else { c with overs := n }

/-! ### Events of one context -/

/-- The set with the context of one index changed, the others as they are (R61). -/
def setWith (index : Nat) (f : Ctx → Ctx) (set : List Ctx) : List Ctx :=
  set.map (fun c => if c.index = index then f c else c)

/-- The neutral value of a kind (R17). -/
def neutralOf (k : Kind) : Nat :=
  match k with
  | .level => 16384
  | .openCircuit => 16384
  | .harmonic => 0
  | .tone => 0
  | .flicker => 16384

/-- The life state after a start frame (R67). -/
def lifeAfterStart (d : Desc) : Life :=
  if d.kind = .flicker ∨ d.rampIn = 0 then .hold else .rampIn

/-- A life of the context of an index has just started (R67). -/
def Started (index : Nat) (d : Desc) (t : State) : Prop :=
  ∃ c, findCtx t.cx.set index = some c ∧ c.snap = d ∧ c.life = lifeAfterStart d ∧
    c.value = neutralOf d.kind ∧ c.rampStart = neutralOf d.kind ∧ c.stepCount = 0 ∧ c.bounds = 0 ∧
    c.flickHalf = .high ∧ c.flickCount = 0 ∧ (d.kind = .tone → c.tone = d.phi * 65536)

/-- Everything that an event of one context, its notices, its markers and its chain leave alone. -/
def OutsideContexts (s t : State) : Prop :=
  t.ant = s.ant ∧ t.edt = s.edt ∧ t.ring = s.ring ∧ t.sau = s.sau ∧ t.lmu = s.lmu ∧ t.cw = s.cw ∧
  t.dsr = s.dsr ∧ t.up = s.up ∧ t.cmx = s.cmx ∧ t.par = s.par ∧ t.pending = s.pending

/-! ### Firing of markers (R121 to R123) -/

/-- Marker k fires: PULSE, STOP, NOTICE in this order, then SPENT in mode ONCE (R121 to R123). -/
def firedOne (k : Nat) (s : State) : State :=
  let m := s.mku.markers.get k
  let s1 := { s with
    mku :=
      { s.mku with
        pulse := if m.actions.getLsbD 0 then max s.mku.pulse m.width else s.mku.pulse
        markers :=
          s.mku.markers.set k { m with state := if m.mode = .once then .spent else m.state } } }
  let s2 :=
    if m.actions.getLsbD 1 = true ∧ (s.sch.state = .running ∨ s.sch.state = .stepping) then
      { s1 with
        sch := { s1.sch with state := .halted }
        cx :=
          { s1.cx with
            set := s1.cx.set.map (fun c => if c.mark = .none then { c with mark := .halt } else c) } }
    else s1
  if m.actions.getLsbD 2 then raise (.mark k s.ant.cycle (s.ant.thetaP.getD 0)) s2 else s2

/-- One occurrence of a condition: every ARMED marker with it fires, in the order 0 to 3 (R121). -/
def fired (cond : MarkerCond) (s : State) : State :=
  (List.range 4).foldl
    (fun u k =>
      if (u.mku.markers.get k).state = .armed ∧ (u.mku.markers.get k).cond = cond then firedOne k u
      else u)
    s

/-- One occurrence of a condition with a notice at a place among its firings: before marker 0, 1, 2 or 3 at that
place, behind them all at place 4 (R121). -/
def firedAround (place : Nat) (n : Notice) (cond : MarkerCond) (s : State) : State :=
  let u :=
    (List.range 4).foldl
      (fun u k =>
        let v := if k = place then raise n u else u
        if (v.mku.markers.get k).state = .armed ∧ (v.mku.markers.get k).cond = cond then firedOne k v
        else v)
      s
  if place = 4 then raise n u else u

/-- A notice and the firing on one condition came about, the notice at any place before, between or behind the
firings, with or without a free choice (R121; log 6). -/
def NoticeWithFiring (raised : Bool) (n : Notice) (cond : MarkerCond) (s t : State) : Prop :=
  ∃ k, (k = s.freeCount ∨ k = s.freeCount + 1) ∧
    if raised = true then ∃ place, place ≤ 4 ∧ t = firedAround place n cond { s with freeCount := k }
    else t = fired cond { s with freeCount := k }

/-- One phase's share of a good MEASUREMENT frame: where it trips, the flag, the TRIP notice, the firing of the
TRIP markers, then the trip action; where it returns to NORMAL under FOLDBACK, the FOLDBACK_END notice (R110 to
R114, R121, R48). -/
def phaseWatched (p : Phase) (current : Int) (s : State) : State :=
  let above := decide (s.par.ilim.get p < current.natAbs)
  let c := s.cw.get p
  let cw := s.cw.set p (watched above s.par c)
  if trips above s.par c = true then
    let v :=
      fired .trip
        (raise (.trip p s.par.tripAction)
          { s with
            cw := s.cw.set p { c with overs := countAfter above c.overs, tripped := true }
            flags := flagsWith s.flags (.trip p) })
    if s.par.tripAction = .safe then raise (.fault (faultDetails (.trip p) s)) (faulted (.trip p) v)
    else { v with cw := cw }
  else if c.tripped = true ∧ s.par.tripAction = .foldback ∧ (watched above s.par c).tripped = false then
    raise (.foldbackEnd p) { s with cw := cw }
  else { s with cw := cw }

/-- The Current Watch's share of a good MEASUREMENT frame: the phases in the order A, B, C (R110). -/
def phasesWatched (ia ib ic : Int) (s : State) : State :=
  phaseWatched .c ic (phaseWatched .b ib (phaseWatched .a ia s))

/-- The CTX_END notices, reason ABORTED, of the contexts that an ABORT takes out: those that notify their end and
wait, stand in a gap or have no ramp-out (R77, R81). -/
def abortedNotices (s : State) : List Notice :=
  (s.cx.set.filter
      (fun c =>
        (c.snap.notify = .finish ∨ c.snap.notify = .both) ∧ c.life ≠ .rampOut ∧
          (c.life = .wait ∨ c.life = .gap ∨ c.snap.kind = .flicker ∨ c.snap.rampOut = 0))).map
    (fun c => .ctxEnd c.index true s.ant.cycle)

/-- The state a consistency fault leaves (R56, R50). -/
def chainFault (c : FaultCause) (s : State) : State :=
  raise (.fault (faultDetails c s))
    { s with
      sch :=
        { s.sch with
          state := if s.sch.state = .faulted then .faulted else .halted
          fault := s.sch.fault.or (some (faultDetails c s)) } }

/-- The context that an arming makes (R52, R63). -/
def joined (index : Nat) (d : Desc) (source : ArmSource) (activation : Nat) : Ctx :=
  { index := index, snap := d, activation := activation, source := source
    firstFrame := source == .ring, life := .wait, stepCount := 0, bounds := 0, lives := 0
    value := neutralOf d.kind, rampStart := neutralOf d.kind, flickHalf := .high, flickCount := 0
    tone := 0, mark := .none }

/-- One entry of a walk is offered: skipped where its index is in the set or the set is full, with ARM_SKIPPED
and its notice, and otherwise armed with the next activation number (R52, R63). -/
def offered (source : ArmSource) (s : State) (index : Nat) : State :=
  if (findCtx s.cx.set index).isSome then
    raise (.armSkip index .duplicate source) { s with flags := flagsWith s.flags .armSkipped }
  else if 8 ≤ s.cx.set.length then
    raise (.armSkip index .setFull source) { s with flags := flagsWith s.flags .armSkipped }
  else
    match tableGet s.edt index with
    | none => s
    | some d =>
      { s with
        cx :=
          { set := s.cx.set ++ [joined index d source ((s.cx.activation + 1) % 65536)]
            activation := (s.cx.activation + 1) % 65536 } }

/-! ### A whole presented frame -/

/-- The frame was a BOUNDARY: the cycle counter has moved (R11). -/
def boundaryFrom (s t : State) : Bool := decide (t.ant.cycle ≠ s.ant.cycle)

/-- The frame's crossing window, held by the tracker, crosses an angle (R9). -/
def crossedOn (t : State) (angle : Nat) : Bool := crosses (presentFrameInfo .advance t) angle

/-- The boundary count with this frame's boundary (R65, R70, R74). -/
def countedBounds (boundary : Bool) (n : Nat) : Nat := if boundary then n + 1 else n

/-- The accumulator after a frame in RAMP_IN, HOLD or RAMP_OUT (R72). -/
def toneNext (c : Ctx) : Nat :=
  if c.snap.kind = .tone then (c.tone + c.snap.freq) % 4294967296 else c.tone

/-- The target value of the kinds other than FLICKER (R17). -/
def targetOf (d : Desc) : Nat := if d.kind = .openCircuit then 0 else d.level

/-- Step n of a ramp of l frames from a toward b, the quotient truncated toward zero (R68, R69, R105). -/
def rampTo (a b n l : Nat) : Nat := ((a : Int) + (((b : Int) - a) * n).tdiv l).toNat

/-- The value of a context for the frame, by the life state it takes the frame in (R65, R68 to R71, R74). -/
def frameValue (c : Ctx) : Nat :=
  match c.life with
  | .wait => neutralOf c.snap.kind
  | .gap => neutralOf c.snap.kind
  | .rampIn =>
    if c.snap.rampIn ≤ c.stepCount + 1 then targetOf c.snap
    else rampTo c.rampStart (targetOf c.snap) (c.stepCount + 1) c.snap.rampIn
  | .hold =>
    if c.snap.kind = .flicker then
      (if c.flickHalf = .high then 16384 + c.snap.level / 2 else 16384 - c.snap.level / 2)
    else targetOf c.snap
  | .rampOut =>
    if c.snap.rampOut ≤ c.stepCount + 1 then neutralOf c.snap.kind
    else rampTo c.rampStart (neutralOf c.snap.kind) (c.stepCount + 1) c.snap.rampOut

/-- The boundary count of a context in HOLD with this frame's boundary; it stops at 65535 (R70). -/
def holdBounds (boundary : Bool) (c : Ctx) : Nat := if boundary then min (c.bounds + 1) 65535 else c.bounds

/-- The context has just started a life (R67). -/
def started (c : Ctx) : Ctx :=
  { c with
    life := lifeAfterStart c.snap
    value := neutralOf c.snap.kind
    rampStart := neutralOf c.snap.kind
    stepCount := 0
    bounds := 0
    flickHalf := .high
    flickCount := 0
    tone := if c.snap.kind = .tone then c.snap.phi * 65536 else c.tone }

/-- The context, in WAIT with a boundary count of `n` on this frame, after the frame (R65, R66). -/
def waited (n : Nat) (crossed : Bool) (c : Ctx) : Ctx :=
  if crossed = true ∨ 2 ≤ n then started c
  else { c with life := .wait, bounds := n, value := neutralOf c.snap.kind }

/-- The context after a HOLD frame, the end test aside (R70 to R72). -/
def heldOn (boundary : Bool) (c : Ctx) : Ctx :=
  { c with
    value := frameValue c
    bounds := holdBounds boundary c
    tone := toneNext c
    flickHalf :=
      if c.snap.kind = .flicker ∧ c.snap.half ≤ c.flickCount + 1 then
        (if c.flickHalf = .high then .low else .high)
      else c.flickHalf
    flickCount :=
      if c.snap.kind = .flicker then
        (if c.snap.half ≤ c.flickCount + 1 then 0 else c.flickCount + 1)
      else c.flickCount }

/-- The frame ends the hold of a context in HOLD (R70). -/
def HoldOver (boundary : Bool) (crossed : Nat → Bool) (c : Ctx) : Prop :=
  crossed c.snap.beta = true ∧ c.snap.hold ≤ holdBounds boundary c

/-- The frame ends the life of the context (R73): the last frame of its ramp-out, or its last HOLD frame where
no ramp-out follows. -/
def LifeEnds (boundary : Bool) (crossed : Nat → Bool) (c : Ctx) : Prop :=
  (c.life = .rampOut ∧ c.snap.rampOut ≤ c.stepCount + 1) ∨
  (c.life = .hold ∧ HoldOver boundary crossed c ∧ (c.snap.kind = .flicker ∨ c.snap.rampOut = 0))

/-- The context `c` is `d` after a frame that does not end its life, its ending mark aside (R64 to R74). -/
def FrameTaken (boundary : Bool) (crossed : Nat → Bool) (c d : Ctx) : Prop :=
  (c.life = .wait → d = waited (countedBounds boundary c.bounds) (crossed c.snap.alpha) c) ∧
  (c.life = .gap →
    (boundary = true ∧ c.snap.gap ≤ c.bounds + 1 → d = waited 1 (crossed c.snap.alpha) c) ∧
    (¬(boundary = true ∧ c.snap.gap ≤ c.bounds + 1) →
      d = { c with bounds := countedBounds boundary c.bounds, value := neutralOf c.snap.kind })) ∧
  (c.life = .rampIn →
    (c.snap.rampIn ≤ c.stepCount + 1 →
      d =
        { c with
          life := .hold, value := frameValue c, stepCount := 0, bounds := 0, tone := toneNext c }) ∧
    (c.stepCount + 1 < c.snap.rampIn →
      d = { c with value := frameValue c, stepCount := c.stepCount + 1, tone := toneNext c })) ∧
  (c.life = .rampOut →
    d = { c with value := frameValue c, stepCount := c.stepCount + 1, tone := toneNext c }) ∧
  (c.life = .hold →
    (HoldOver boundary crossed c →
      d = { heldOn boundary c with life := .rampOut, rampStart := frameValue c, stepCount := 0 }) ∧
    (¬HoldOver boundary crossed c → d = heldOn boundary c))

/-- The context `c` is `d` after a frame that ends its life and leaves it a further one (R73). -/
def LifeWentOn (boundary : Bool) (c d : Ctx) : Prop :=
  (c.life = .rampOut →
    d =
      { c with
        value := frameValue c, stepCount := c.stepCount + 1, tone := toneNext c
        life := if 1 ≤ c.snap.gap then .gap else .wait
        bounds := 0, lives := min (c.lives + 1) 255 }) ∧
  (c.life = .hold →
    d =
      { heldOn boundary c with
        life := if 1 ≤ c.snap.gap then .gap else .wait
        bounds := 0, lives := min (c.lives + 1) 255 })

/-! ### The samples of a frame (chapters 5 and 6) -/

/-- The context is active on the frame and covers the phase (R64, R87, R91, R92). -/
def actsOn (p : Phase) (c : Ctx) : Bool :=
  (c.life == .rampIn || c.life == .hold || c.life == .rampOut) && c.snap.phases.getLsbD (phaseBit p)

/-- The factors of a phase in order: its active gain contexts in set order, the fold-back gain, M (R87). -/
def factorsOf (took : List Ctx) (p : Phase) (fold factor : Nat) : List Nat :=
  (took.filter
      (fun c =>
        actsOn p c &&
          (c.snap.kind == .level || c.snap.kind == .openCircuit || c.snap.kind == .flicker))).map
    frameValue ++ [fold, factor]

/-- The product of a running product and a factor before it is bounded (R88). -/
def gainTimes (g v : Nat) : Nat := (g * v + 8192) / 16384

/-- The running product after a list of gain steps (R88). -/
def productOf (g : Nat) (vs : List Nat) : Nat :=
  match vs with
  | [] => g
  | v :: rest => productOf (min (gainTimes g v) 65535) rest

/-- Some gain step of a list goes above 65535 (R88). -/
def GainSaturates (g : Nat) (vs : List Nat) : Prop :=
  match vs with
  | [] => False
  | v :: rest => 65535 < gainTimes g v ∨ GainSaturates (min (gainTimes g v) 65535) rest

/-- The angle of the term a context gives: of a HARMONIC from the phase's fundamental, of a TONE from its
accumulator (R90 to R92). -/
def termAngle (theta offset : Nat) (c : Ctx) : Nat :=
  if c.snap.kind = .harmonic then ((theta + offset) % 65536 * c.snap.order + c.snap.phi) % 65536
  else c.tone / 65536

/-- The injection sum of a phase (R91 to R94). -/
def injectedSum (took : List Ctx) (theta offset : Nat) (p : Phase) : Int :=
  ((took.filter (fun c => actsOn p c && (c.snap.kind == .harmonic || c.snap.kind == .tone))).map
    (fun c =>
      ((frameValue c : Int) * sineEntry (termAngle theta offset c / 64) + 16384) / 32768)).sum

/-- What the samples of a frame are computed from: the contexts that take it, the state after the arrival, the
frame's angle and M (R86). -/
structure FrameInputs where
  took : List Ctx
  arrived : State
  theta : Nat
  factor : Nat

/-- The factors of a phase on the frame (R87). -/
def FrameInputs.factors (f : FrameInputs) (p : Phase) : List Nat :=
  factorsOf f.took p (f.arrived.cw.get p).fold f.factor

/-- The scaled input and the injection of a phase, before saturation (R95). -/
def FrameInputs.unsaturated (f : FrameInputs) (p : Phase) : Int :=
  (f.arrived.sau.xHold.get p * productOf 16384 (f.factors p) + 8192) / 16384 +
    injectedSum f.took f.theta (f.arrived.par.offset.get p) p

/-- The raw output of a phase (R95). -/
def FrameInputs.raw (f : FrameInputs) (p : Phase) : Int := max (-131072) (min (f.unsaturated p) 131071)

/-- The slewed value of a phase (R100). -/
def FrameInputs.slewed (f : FrameInputs) (p : Phase) : Int :=
  let prev := f.arrived.lmu.yPrev.get p
  let limit : Int := f.arrived.par.slew.get p
  if limit < f.raw p - prev then prev + limit else if f.raw p - prev < -limit then prev - limit else f.raw p

/-- The emitted sample of a phase (R101). -/
def FrameInputs.emitted (f : FrameInputs) (p : Phase) : Int :=
  let limit : Int := f.arrived.par.peak.get p
  if limit < f.slewed p then limit else if f.slewed p < -limit then -limit else f.slewed p

/-- The inputs of a presented frame; `s` is the state after the arrival, `t` the one after the work, and the first
`n` contexts take the frame (R64, R86). -/
def frameInputs (n : Nat) (s t : State) : FrameInputs :=
  { took := s.cx.set.take n, arrived := s, theta := t.ant.thetaP.getD 0, factor := t.lmu.factor }

/-- The slew stage changes the value of a phase (R100). -/
def SlewActs (f : FrameInputs) (p : Phase) : Prop := f.slewed p ≠ f.raw p

/-- The peak stage changes the value of a phase (R101). -/
def PeakActs (f : FrameInputs) (p : Phase) : Prop := f.emitted p ≠ f.slewed p

/-- The mute state, its ramp and M over a presented frame (R105). -/
def muteOver (m : Lmu) : Lmu :=
  match m.mute with
  | .unmuted => { m with factor := 16384 }
  | .muted => { m with factor := 0 }
  | .muting =>
    if 32 ≤ m.rampStep + 1 then { m with mute := .muted, factor := 0, rampStep := 0 }
    else { m with factor := rampTo m.rampStart 0 (m.rampStep + 1) 32, rampStep := m.rampStep + 1 }
  | .unmuting =>
    if 32 ≤ m.rampStep + 1 then { m with mute := .unmuted, factor := 16384, rampStep := 0 }
    else { m with factor := rampTo m.rampStart 16384 (m.rampStep + 1) 32, rampStep := m.rampStep + 1 }

/-- Mute state, M and the emitted samples over a presented frame (R87 to R95, R100, R101, R105). -/
def SamplesEmitted (n : Nat) (s t : State) : Prop :=
  t.lmu =
    { muteOver s.lmu with
      yPrev := ⟨(frameInputs n s t).emitted .a, (frameInputs n s t).emitted .b, (frameInputs n s t).emitted .c⟩ }

/-- The frame is a REVERSAL: it is compared with the angle held at its arrival, which is the greater, and the
test of a BOUNDARY fails (R6, R8). -/
def Reversed (s t : State) : Prop :=
  ∃ a b, s.ant.thetaP = some a ∧ t.ant.thetaP = some b ∧ t.ant.start = a ∧ b < a ∧
    ¬(49152 ≤ a ∧ b < 16384)

/-- Some context of those that take the frame makes a late start on it (R66). -/
def StartedLate (n : Nat) (s t : State) : Prop :=
  ∃ c, c ∈ s.cx.set.take n ∧ c.life = .wait ∧ crossedOn t c.snap.alpha = false ∧
    2 ≤ countedBounds (boundaryFrom s t) c.bounds

/-- The sticky flags over the work of a presented frame: those it sets, and when; ARM_SKIPPED and NOTICE_LOST may
be set by the armings and notices it brings; the others stand (R8, R66, R88, R95, R103, R154). -/
def FlagsOfFrame (n : Nat) (s t : State) : Prop :=
  (∀ p, flagIsSet t.flags (.slew p) = true ↔
    flagIsSet s.flags (.slew p) = true ∨ SlewActs (frameInputs n s t) p) ∧
  (∀ p, flagIsSet t.flags (.clip p) = true ↔
    flagIsSet s.flags (.clip p) = true ∨ PeakActs (frameInputs n s t) p) ∧
  (flagIsSet t.flags .gainSat = true ↔
    flagIsSet s.flags .gainSat = true ∨ ∃ p, GainSaturates 16384 ((frameInputs n s t).factors p)) ∧
  (flagIsSet t.flags .sumSat = true ↔
    flagIsSet s.flags .sumSat = true ∨
      ∃ p, (frameInputs n s t).raw p ≠ (frameInputs n s t).unsaturated p) ∧
  (flagIsSet t.flags .angleReverse = true ↔ flagIsSet s.flags .angleReverse = true ∨ Reversed s t) ∧
  (flagIsSet t.flags .startLate = true ↔ flagIsSet s.flags .startLate = true ∨ StartedLate n s t) ∧
  (∀ f, f = .armSkipped ∨ f = .noticeLost → flagIsSet s.flags f = true → flagIsSet t.flags f = true) ∧
  (∀ f, f = .sampleCheck ∨ f = .measCheck ∨ f = .seqGap ∨ f = .cmdCheck ∨ f = .cmdOverrun ∨
      f = .fwdOverrun ∨ f = .protect ∨ f = .syncIgnored ∨ (∃ p, f = .trip p) →
    flagIsSet t.flags f = flagIsSet s.flags f)

/-- The Scheduler reads the ring in this state (R38). -/
def Reads (s : State) : Prop := s.sch.state = .running ∨ s.sch.state = .stepping

/-- No marker of the state can stop the plan, and no context of it has a chain to arm: nothing of the frame
meets its ring read in an open order (R58, R123). -/
def Unhindered (s : State) : Prop :=
  (∀ k, k < 4 → (s.mku.markers.get k).state = .armed →
    (s.mku.markers.get k).actions.getLsbD 1 = false) ∧
  (∀ c, c ∈ s.cx.set → linksAfter c.snap = false)

/-- Plan base, Cycle Ring and scheduler state over a presented frame (R35, R38, R44, R123). -/
def PlanAndRing (s t : State) : Prop :=
  (t.ant.cycle = s.ant.cycle →
    t.sch.planBase = s.sch.planBase ∧ t.sch.pendingBase = s.sch.pendingBase ∧ t.ring = s.ring) ∧
  (t.ant.cycle ≠ s.ant.cycle →
    t.sch.planBase = s.sch.pendingBase.getD s.sch.planBase ∧ t.sch.pendingBase = none ∧
    (∀ k, k ≠ t.ant.cycle % 512 → tableGet t.ring k = tableGet s.ring k) ∧
    (¬Reads s ∨ tableGet s.ring (t.ant.cycle % 512) = none → t.ring = s.ring) ∧
    (∀ o, tableGet s.ring (t.ant.cycle % 512) = some { offset := o, persistence := .every } →
      t.ring = s.ring) ∧
    (s.sch.state = .stepping → tableGet s.ring (t.ant.cycle % 512) ≠ none →
      t.sch.state = .halted)) ∧
  (s.sch.state = .halted → t.sch.state = .halted) ∧ (s.sch.state = .faulted → t.sch.state = .faulted) ∧
  (s.sch.state = .running → t.sch.state = .running ∨ t.sch.state = .halted) ∧
  (s.sch.state = .stepping → t.sch.state = .stepping ∨ t.sch.state = .halted)

/-- The ring read of a boundary frame that nothing hinders: the slot, the faults of the walk, and a chain of
one entry that has a place (R38, R44, R52, R56, R63). -/
def RingLaunch (s t : State) : Prop :=
  Unhindered s → t.ant.cycle ≠ s.ant.cycle → Reads s →
    ∀ slot head, tableGet s.ring (t.ant.cycle % 512) = some slot →
      head = (s.sch.pendingBase.getD s.sch.planBase + slot.offset) % 256 →
      (slot.persistence = .once → tableGet t.ring (t.ant.cycle % 512) = none) ∧
      (∀ i, walk s.edt head = .empty i →
        t.sch.state = .halted ∧ t.cx.activation = s.cx.activation ∧
        t.sch.fault = s.sch.fault.or (some (faultDetails (.emptyDesc i) t))) ∧
      (walk s.edt head = .long →
        t.sch.state = .halted ∧ t.cx.activation = s.cx.activation ∧
        t.sch.fault = s.sch.fault.or (some (faultDetails (.chainLong head) t))) ∧
      (∀ d, tableGet s.edt head = some d → linksWith d = false → findCtx s.cx.set head = none →
        s.cx.set.length < 8 →
        (s.sch.state = .running → t.sch.state = .running) ∧ t.sch.fault = s.sch.fault ∧
        t.cx.activation = (s.cx.activation + 1) % 65536 ∧
        findCtx t.cx.set head =
          some
            (waited 1 (crossedOn t d.alpha) (joined head d .ring ((s.cx.activation + 1) % 65536))))

/-- The first `n` contexts of the set over a presented frame: each takes it, and one whose life ends goes on
or leaves the set (R64, R73, R75, R76). -/
def ContextsTook (n : Nat) (s t : State) : Prop :=
  (s.cx.set.map (·.index)).Nodup →
    ∀ c, c ∈ s.cx.set.take n →
      (¬LifeEnds (boundaryFrom s t) (crossedOn t) c →
        ∃ d, FrameTaken (boundaryFrom s t) (crossedOn t) c d ∧
          (findCtx t.cx.set c.index = some d ∨
            (c.mark = .none ∧ findCtx t.cx.set c.index = some { d with mark := .halt }))) ∧
      (LifeEnds (boundaryFrom s t) (crossedOn t) c → Unhindered s →
        (c.mark = .none → (c.snap.repeats = 0 ∨ min (c.lives + 1) 255 ≠ c.snap.repeats) →
          ∃ d, LifeWentOn (boundaryFrom s t) c d ∧ findCtx t.cx.set c.index = some d) ∧
        (c.mark ≠ .none ∨ (c.snap.repeats ≠ 0 ∧ min (c.lives + 1) 255 = c.snap.repeats) →
          t.ant.cycle = s.ant.cycle → findCtx t.cx.set c.index = none))

/-- The ARMED markers on CYCLE over a presented frame: they fire on the boundary to their cycle and on no
other frame (R120 to R123). -/
def CycleMarkersTook (s t : State) : Prop :=
  ∀ k v, k < 4 → (s.mku.markers.get k).state = .armed → (s.mku.markers.get k).cond = .cycle v →
    (t.ant.cycle = s.ant.cycle ∨ t.ant.cycle ≠ v → t.mku.markers.get k = s.mku.markers.get k) ∧
    (t.ant.cycle ≠ s.ant.cycle → t.ant.cycle = v →
      t.mku.markers.get k =
        { s.mku.markers.get k with
          state := if (s.mku.markers.get k).mode = .once then .spent else .armed } ∧
      ((s.mku.markers.get k).actions.getLsbD 0 = true →
        (s.mku.markers.get k).width ≤ t.mku.pulse) ∧
      ((s.mku.markers.get k).actions.getLsbD 1 = true → Reads s → t.sch.state = .halted))

/-- The ARMED markers on CLIP over a presented frame: they fire where the peak stage changes a phase of their
mask and on no other frame, whether or not the flag was set (R103, R120 to R123). -/
def ClipMarkersTook (n : Nat) (s t : State) : Prop :=
  ∀ k m, k < 4 → (s.mku.markers.get k).state = .armed → (s.mku.markers.get k).cond = .clip m →
    ((∀ p, m.getLsbD (phaseBit p) = true → ¬PeakActs (frameInputs n s t) p) →
      t.mku.markers.get k = s.mku.markers.get k) ∧
    ((∃ p, m.getLsbD (phaseBit p) = true ∧ PeakActs (frameInputs n s t) p) →
      t.mku.markers.get k =
        { s.mku.markers.get k with
          state := if (s.mku.markers.get k).mode = .once then .spent else .armed } ∧
      ((s.mku.markers.get k).actions.getLsbD 0 = true →
        (s.mku.markers.get k).width ≤ t.mku.pulse) ∧
      ((s.mku.markers.get k).actions.getLsbD 1 = true → Reads s → t.sch.state = .halted))

/-- Nothing but the limits can raise a notice on the frame: no marker is ARMED, no context that takes the frame
asks for notices or has a chain to arm, and no slot is read (R38, R54, R80, R81, R121). -/
def OnlyLimitsNotify (n : Nat) (s t : State) : Prop :=
  (∀ k, k < 4 → (s.mku.markers.get k).state ≠ .armed) ∧
  (∀ c, c ∈ s.cx.set.take n → c.snap.notify = .off ∧ linksAfter c.snap = false) ∧
  (t.ant.cycle = s.ant.cycle ∨ ¬Reads s ∨ tableGet s.ring (t.ant.cycle % 512) = none)

/-- The notice of one limit flag that goes from clear to set on the frame (R103). -/
def limitNotice (s t : State) (acts slew : Bool) (p : Phase) (flag : Flag) : List Notice :=
  if acts = true ∧ flagIsSet s.flags flag = false then [.limit slew p t.ant.cycle] else []

/-- The LIMIT notices of a frame, in their order (R103). -/
def limitNotices (n : Nat) (s t : State) : List Notice :=
  let f := frameInputs n s t
  [Phase.a, Phase.b, Phase.c].flatMap
    (fun p =>
      limitNotice s t (f.slewed p != f.raw p) true p (.slew p) ++
        limitNotice s t (f.emitted p != f.slewed p) false p (.clip p))

/-- The Report Queue over a frame on which the limits alone can notify (R103, R163). -/
def LimitsNotified (n : Nat) (s t : State) : Prop :=
  OnlyLimitsNotify n s t →
    ∃ u, u = (limitNotices n s t).foldl (fun v notice => raise notice v) s ∧ t.rpq = u.rpq ∧
      flagIsSet t.flags .noticeLost = flagIsSet u.flags .noticeLost

/-- What the work of a presented frame does to Scheduler, Cycle Ring, contexts, samples, mute factor, flags, CYCLE
and CLIP markers and, where nothing else notifies, LIMIT notices; `s` is the state after the arrival, and the first
`n` contexts were in the set before it. -/
def FrameWorked (n : Nat) (s t : State) : Prop :=
  PlanAndRing s t ∧ RingLaunch s t ∧ ContextsTook n s t ∧ SamplesEmitted n s t ∧ FlagsOfFrame n s t ∧
  CycleMarkersTook s t ∧ ClipMarkersTook n s t ∧ LimitsNotified n s t

/-- The frame of a row is presented from the state `before`: a SAMPLE frame, good or failing, or a self-generated
frame, whose timer restarts (R2, R135, R140). -/
def Presents (i : Instr) (p : Presented) (s before : State) : Prop :=
  (∃ ws, i = .sampleFrame ws ∧ oneFrame ws = true ∧ s.dsr.din = .header ∧
    headerType (ws.headD 0) ≠ typeCommand ∧
    p = (if dinGood ws then .good (readSample ws) else .failing) ∧ before = s) ∨
  (i = .selfGeneratedFrame ∧ s.dsr.link ≠ .up ∧ s.dsr.selfTimer = some 1 ∧ p = .selfGenerated ∧
    before = { s with dsr := { s.dsr with selfTimer := some 20 } })

/-- The active set after the arrival of a frame, with the command that completes on it (R53, R77, R148). -/
def setAtArrival (s : State) : List Ctx :=
  match s.cmx.exec with
  | .executing c => (commandArrives c s).2.cx.set
  | _ => s.cx.set

/-- The OPEN flags of a presented frame: some context of kind OPEN takes it in HOLD (R104). -/
def openMarks (s : State) : PerPhase Bool :=
  let holds := fun (p : BitVec 3) =>
    (setAtArrival s).any
      (fun c => c.snap.kind == .openCircuit && c.life == .hold && c.snap.phases &&& p != 0)
  ⟨holds 1, holds 2, holds 4⟩

/-! ### A microsecond tick -/

/-- A timer on a tick; one that runs out is left to its row. -/
def ticked (running : Bool) (t : Option Nat) : Option Nat :=
  if running then t.map (fun n => if n ≤ 1 then n else n - 1) else t

/-- The counts of a tick that do not run out, the pulse aside (R127, R139, R140, R143). -/
def counted (level : Level) (s : State) : State :=
  { s with
    mku :=
      { s.mku with
        syncCount :=
          if level = s.mku.syncLevel then 0
          else if s.par.syncQual ≤ s.mku.syncCount + 1 then s.mku.syncCount else s.mku.syncCount + 1 }
    dsr :=
      { s.dsr with
        timer := ticked (s.dsr.link == .up) s.dsr.timer
        selfTimer := ticked (s.dsr.link != .up) s.dsr.selfTimer }
    up :=
      { s.up with
        timer := ticked (s.up.link == .up) s.up.timer
        cadence := ticked (s.up.link != .up) s.up.cadence } }

/-- The trigger timer's share of a tick (R122). -/
def pulseDown (s : State) : State := { s with mku := { s.mku with pulse := s.mku.pulse - 1 } }

/-- The rows whose count runs out on a tick with this level (R127, R139, R140, R143). -/
def tickRows (level : Level) (s : State) : List Instr :=
  (if level ≠ s.mku.syncLevel ∧ s.par.syncQual ≤ s.mku.syncCount + 1 then [.syncInEdge] else []) ++
  (if s.dsr.link = .up ∧ (s.dsr.timer = some 1 ∨ s.dsr.timer = some 0) then [.downstreamLinkLoss]
   else []) ++
  (if s.dsr.link ≠ .up ∧ (s.dsr.selfTimer = some 1 ∨ s.dsr.selfTimer = some 0) then
     [.selfGeneratedFrame]
   else []) ++
  (if s.up.link = .up ∧ (s.up.timer = some 1 ∨ s.up.timer = some 0) then [.upstreamLinkLoss] else []) ++
  (if s.up.link ≠ .up ∧ (s.up.cadence = some 1 ∨ s.up.cadence = some 0) then [.upstreamCadenceExpiry]
   else [])

/-! ### Records as words (section 11.4.1, codes of 11.4.2)

Bits that no field names are 0, and so are the pending plan base where none is held and bits 15-0 beside NONE:
the model's choices (log 17, 28, 29). -/

/-- A word from its four byte fields, bits 31-24 first. -/
def word4 (b3 b2 b1 b0 : Nat) : Word :=
  BitVec.ofNat 8 b3 ++ BitVec.ofNat 8 b2 ++ BitVec.ofNat 8 b1 ++ BitVec.ofNat 8 b0

/-- A word from its two halves, bits 31-16 first. -/
def word2 (h l : Nat) : Word := BitVec.ofNat 16 h ++ BitVec.ofNat 16 l

/-- No and yes, clear and set. -/
def yes (b : Bool) : Nat := if b then 1 else 0

/-- Kinds. -/
def kindField (k : Kind) : Nat :=
  match k with
  | .level => 1
  | .openCircuit => 2
  | .harmonic => 3
  | .tone => 4
  | .flicker => 5

/-- Next modes. -/
def nextModeField (m : NextMode) : Nat :=
  match m with
  | .after => 1
  | .together => 2

/-- Notify fields. -/
def notifyField (n : Notify) : Nat :=
  match n with
  | .off => 0
  | .start => 1
  | .finish => 2
  | .both => 3

/-- The descriptor record. -/
def descWords (d : Desc) : List Word :=
  [ word4 (kindField d.kind) d.phases.toNat (BitVec.ofInt 8 d.next).toNat d.repeats,
    word4 (nextModeField d.nextMode) (notifyField d.notify) (yes d.locked) d.order,
    word2 d.alpha d.beta,
    word2 d.hold d.gap,
    word2 d.rampIn d.rampOut,
    word2 d.level d.phi,
    BitVec.ofNat 32 d.freq,
    BitVec.ofNat 32 d.half ]

/-- The refused values of R27, by the fields of the 8 words. -/
def DescRefused (ws : List Word) : Prop :=
  let w := fun k => ws.getD k 0
  let kind := field (w 0) 24 8
  let phases := field (w 0) 16 8
  let order := field (w 1) 0 8
  kind = 0 ∨ 6 ≤ kind ∨ phases = 0 ∨ 8 ≤ phases ∨
  (kind = 5 ∧ 32768 ≤ field (w 5) 16 16) ∨ (kind = 3 ∧ (order ≤ 1 ∨ 51 ≤ order)) ∨
  (kind = 4 ∧ ((w 6).toNat = 0 ∨ 2147483648 ≤ (w 6).toNat)) ∨
  (kind = 5 ∧ ((w 7).toNat = 0 ∨ 16777216 ≤ (w 7).toNat)) ∨
  field (w 1) 24 8 = 0 ∨ 3 ≤ field (w 1) 24 8 ∨ 4 ≤ field (w 1) 16 8 ∨ 2 ≤ field (w 1) 8 8

/-- The descriptor that a record of 8 words stores, 0 in the fields absent for its kind (R18, R26). -/
def Stores (ws : List Word) (d : Desc) : Prop :=
  let w := fun k => ws.getD k 0
  kindField d.kind = field (w 0) 24 8 ∧ d.phases.toNat = field (w 0) 16 8 ∧
  d.next = (BitVec.ofNat 8 (field (w 0) 8 8)).toInt ∧ d.repeats = field (w 0) 0 8 ∧
  nextModeField d.nextMode = field (w 1) 24 8 ∧ notifyField d.notify = field (w 1) 16 8 ∧
  yes d.locked = field (w 1) 8 8 ∧
  d.alpha = field (w 2) 16 16 ∧ d.beta = field (w 2) 0 16 ∧
  d.hold = field (w 3) 16 16 ∧ d.gap = field (w 3) 0 16 ∧
  d.rampIn = (if d.kind = .flicker then 0 else field (w 4) 16 16) ∧
  d.rampOut = (if d.kind = .flicker then 0 else field (w 4) 0 16) ∧
  d.level = (if d.kind = .openCircuit then 0 else field (w 5) 16 16) ∧
  d.phi = (if d.kind = .harmonic ∨ d.kind = .tone then field (w 5) 0 16 else 0) ∧
  d.order = (if d.kind = .harmonic then field (w 1) 0 8 else 0) ∧
  d.freq = (if d.kind = .tone then (w 6).toNat else 0) ∧
  d.half = (if d.kind = .flicker then (w 7).toNat else 0)

/-- The slot record. -/
def slotWord (s : Option Slot) : Word :=
  match s with
  | none => 0
  | some s => word4 1 (match s.persistence with | .once => 1 | .every => 2) 0 s.offset

/-- The slot records that R39 refuses. -/
def SlotRefused (w : Word) : Prop :=
  2 ≤ field w 24 8 ∨ (field w 24 8 = 1 ∧ field w 16 8 ≠ 1 ∧ field w 16 8 ≠ 2)

/-- The slot that a record not refused stores (R39). -/
def slotOf (w : Word) : Option Slot :=
  if field w 24 8 = 0 then none
  else some { offset := field w 0 8, persistence := if field w 16 8 = 1 then .once else .every }

/-- The context record. -/
def contextWords (c : Ctx) : List Word :=
  [ word4 c.index (match c.source with | .ring => 1 | .chain => 2 | .sync => 3 | .command => 4)
      (match c.life with | .wait => 0 | .rampIn => 1 | .hold => 2 | .rampOut => 3 | .gap => 4)
      (match c.mark with | .none => 0 | .halt => 1 | .abort => 2),
    BitVec.ofNat 16 c.activation ++ BitVec.ofNat 8 c.lives ++ BitVec.ofNat 8 (yes c.firstFrame),
    word2 c.stepCount c.bounds,
    word2 c.value c.rampStart,
    if c.snap.kind = .flicker then
      BitVec.ofNat 8 (if c.flickHalf = .high then 1 else 0) ++ BitVec.ofNat 24 c.flickCount
    else 0,
    if c.snap.kind = .tone then BitVec.ofNat 32 c.tone else 0 ] ++ descWords c.snap

/-- The fault record. -/
def faultWords (r : Option FaultRecord) : List Word :=
  match r with
  | none => [0, 0]
  | some r =>
    [ match r.cause with
      | .emptyDesc i => word4 1 1 i 0
      | .chainLong h => word4 1 2 h 0
      | .trip .a => word4 1 3 0 1
      | .trip .b => word4 1 3 0 2
      | .trip .c => word4 1 3 0 4
      | .linkDown => word4 1 4 0 0
      | .linkUpLost => word4 1 5 0 0,
      word2 r.cycle r.angle ]

/-- The status record; the executor state field says HOLDING where the queue holds 8 reports (R155). -/
def statusWords (s : State) : List Word :=
  [ word4
      (match s.sch.state with | .halted => 0 | .running => 1 | .stepping => 2 | .faulted => 3)
      s.sch.planBase (s.sch.pendingBase.getD 0) (yes s.sch.pendingBase.isSome),
    BitVec.ofNat 16 s.ant.cycle ++ BitVec.ofNat 8 s.cx.set.length ++ BitVec.ofNat 8 s.cmx.buffer.length,
    word4 s.rpq.queue.length (if s.rpq.queue.length < 8 then 0 else 2) (yes (s.dsr.link == .up))
      (yes (s.up.link == .up)),
    word4 (yes s.cw.a.tripped) (yes s.cw.b.tripped) (yes s.cw.c.tripped)
      (match s.lmu.mute with | .unmuted => 0 | .muting => 1 | .muted => 2 | .unmuting => 3),
    word2 s.cw.a.fold s.cw.b.fold,
    word2 s.cw.c.fold s.lmu.factor,
    (0 : BitVec 9) ++ s.flags ] ++ faultWords s.sch.fault

/-- One marker of READ_MARKERS: state word and configuration (R126). -/
def markerWords (m : Marker) : List Word :=
  [ word4 (match m.state with | .disabled => 0 | .armed => 1 | .spent => 2) 0 0 0,
    word4
      (match m.cond with
       | .none => 0 | .cycle _ => 1 | .descStart _ => 2 | .descEnd _ => 3 | .clip _ => 4 | .trip => 5
       | .sync => 6)
      m.actions.toNat (match m.mode with | .once => 0 | .every => 1) 0,
    word2
      (match m.cond with
       | .none => 0 | .cycle v => v | .descStart d => d | .descEnd d => d | .clip mask => mask.toNat
       | .trip => 0 | .sync => 0)
      m.width ]

/-- The value of each parameter, by its index (R157, R158). -/
def paramWords (s : State) : List Word :=
  [s.par.peak.a, s.par.peak.b, s.par.peak.c, s.par.slew.a, s.par.slew.b, s.par.slew.c,
    s.par.offset.a, s.par.offset.b, s.par.offset.c, s.sch.planBase, s.par.ilim.a, s.par.ilim.b,
    s.par.ilim.c, s.par.tripQual,
    match s.par.tripAction with | .notify => 0 | .foldback => 1 | .safe => 2,
    s.par.foldStep, s.par.foldFloor, s.par.syncQual,
    match s.par.syncEdge with | .rising => 0 | .falling => 1 | .both => 2].map (BitVec.ofNat 32) ++
  [match s.par.syncOffset with | some o => word2 0 o | none => word2 1 0,
    (0 : BitVec 24) ++ s.par.notifyMask]

end Sys2Proof.Safety
end

