-- ==== Sys2Proof/Certificates/Slice0/Obligations.lean ====
section
/-! DEFINITION. The statements for the provers. -/

section

open Sys2Proof Sys2Proof.Machine Sys2Proof.Safety

/-! ### The step, reset, the invariants -/

/-- The model's step (log 12): the front command with the queue's rest; an empty queue idles. -/
def Obligations.StepRunsTheFrontCommand : Prop :=
  (∀ (s : State) (c : Instr) (rest : List Instr),
    s.pending = c :: rest → step s = exec c { s with pending := rest }) ∧
  (∀ s : State, s.pending = [] → step s = .next s)

/-- Every row answers a next state in every state, and none touches the queue of waiting commands. What the
state is, the statements below say. That it answers in every state rests on the model: a row that is not due
changes nothing (log 2), nor does a command row with a busy executor (log 3), and the queue is the model's own
(log 11, log 12). -/
def Obligations.EveryCommandGoesOnAndKeepsTheQueue : Prop :=
  ∀ (c : Instr) (s : State), ∃ t, exec c s = .next t ∧ t.pending = s.pending

/-- R1, R16, R37, R42, R61, R84, R99, R109, R118, R132, R154, R157, R162 after power-on reset; the model's
own two fields are kept (log 11). -/
def Obligations.PowerOnResetRestoresEveryItem : Prop :=
  ∀ s : State, ∃ t, exec .powerOnReset s = .next t ∧
    t.ant = { thetaP := none, lastStep := 0, cycle := 0, start := 0, step := 0 } ∧
    t.edt = [] ∧ t.ring = [] ∧
    t.sch = { state := .halted, planBase := 0, pendingBase := none, fault := none } ∧
    t.cx = { set := [], activation := 0 } ∧
    (∀ p, t.sau.xHold.get p = 0) ∧
    (∀ p, t.lmu.yPrev.get p = 0) ∧ t.lmu.mute = .unmuted ∧ t.lmu.factor = 16384 ∧
    t.lmu.rampStart = 16384 ∧ t.lmu.rampStep = 0 ∧
    (∀ p, t.cw.get p = { overs := 0, tripped := false, fold := 16384 }) ∧
    (∀ k, k < 4 → t.mku.markers.get k =
      { state := .disabled, cond := .none, actions := 0, mode := .once, width := 0 }) ∧
    t.mku.pulse = 0 ∧ t.mku.syncLevel = .low ∧ t.mku.syncCount = 0 ∧
    t.dsr =
      { link := .lost false, timer := none, selfTimer := some 20, expected := none, control := 0
        outSeq := 0, slot := none, slotHanded := false, din := .header, sending := .nothing
        outList := [] } ∧
    t.up =
      { link := .lost false, timer := none, cadence := some 20, uin := .header, sending := none
        outList := [] } ∧
    t.cmx = { buffer := [], exec := .idle } ∧ t.rpq = { queue := [], lost := false } ∧
    t.par =
      { peak := ⟨131071, 131071, 131071⟩, slew := ⟨262143, 262143, 262143⟩
        offset := ⟨0, 43691, 21845⟩, ilim := ⟨131071, 131071, 131071⟩
        tripQual := 8, tripAction := .notify, foldStep := 64, foldFloor := 4096
        syncQual := 10, syncEdge := .rising, syncOffset := none, notifyMask := 255 } ∧
    t.flags = 0 ∧ t.freeCount = s.freeCount ∧ t.pending = s.pending

/-- The invariants hold after reset. -/
def Obligations.ResetMeetsTheInvariants : Prop :=
  QueuesFit State.reset ∧ TablesCanonical State.reset ∧ ActiveSetLegal State.reset ∧
  MuteLegal State.reset ∧ FoldLegal State.reset ∧ LinksLegal State.reset ∧ AnglesLegal State.reset

/-- R136, R142, R146, R147, R162: no queue or transmit list ever holds more than it can. -/
def Obligations.EveryStepKeepsTheQueuesInTheirCapacity : Prop :=
  ∀ s t : State, QueuesFit s → step s = .next t → QueuesFit t

/-- R16, R37: the tables stay in the canonical form (log 18). -/
def Obligations.EveryStepKeepsTheTablesCanonical : Prop :=
  ∀ s t : State, TablesCanonical s → step s = .next t → TablesCanonical t

/-- R61, R48: at most 8 contexts, no two from one descriptor index, none in FAULTED. -/
def Obligations.EveryStepKeepsTheActiveSetLegal : Prop :=
  ∀ s t : State, ActiveSetLegal s → step s = .next t → ActiveSetLegal t

/-- R105 to R107: MUTING and MUTED in FAULTED and nowhere else, and M within 0 to 16384. -/
def Obligations.EveryStepKeepsTheMuteStateWithTheSafetyStop : Prop :=
  ∀ s t : State, MuteLegal s → step s = .next t → MuteLegal t

/-- R109, R157: parameters in range, each fold-back gain between the floor in force and 16384. -/
def Obligations.EveryStepKeepsTheFoldBackGainsInRange : Prop :=
  ∀ s t : State, FoldLegal s → step s = .next t → FoldLegal t

/-- R139, R140, R143: each timer runs in its link state alone; an UP downstream link has an angle. -/
def Obligations.EveryStepKeepsTheLinkTimersLegal : Prop :=
  ∀ s t : State, LinksLegal s → step s = .next t → LinksLegal t

/-- R1: the items of the Angle Tracker stay in their ranges. -/
def Obligations.EveryStepKeepsTheAnglesInRange : Prop :=
  ∀ s t : State, AnglesLegal s → step s = .next t → AnglesLegal t

/-! ### The Angle Tracker and one frame's arithmetic -/

/-- R6: the class table, on any frame compared with a held angle, good or extrapolated. -/
def Obligations.FrameClassFollowsTheTable : Prop :=
  ∀ (thetaP thetaC : Nat) (good : Bool) (a : Ant), thetaP < 65536 → thetaC < 65536 →
    (trackFrom thetaP thetaC good a).1.start = thetaP ∧
    (49152 ≤ thetaP ∧ thetaC < 16384 →
      (trackFrom thetaP thetaC good a).1.cls = .boundary ∧
      (trackFrom thetaP thetaC good a).1.step = thetaC + 65536 - thetaP ∧
      1 ≤ thetaC + 65536 - thetaP ∧ thetaC + 65536 - thetaP ≤ 32767 ∧
      (trackFrom thetaP thetaC good a).2.cycle = (a.cycle + 1) % 65536) ∧
    (¬(49152 ≤ thetaP ∧ thetaC < 16384) → thetaP ≤ thetaC →
      (trackFrom thetaP thetaC good a).1.cls = .advance ∧
      (trackFrom thetaP thetaC good a).1.step = thetaC - thetaP ∧
      thetaC - thetaP ≤ 65535 ∧
      (trackFrom thetaP thetaC good a).2.cycle = a.cycle) ∧
    (¬(49152 ≤ thetaP ∧ thetaC < 16384) → thetaC < thetaP →
      (trackFrom thetaP thetaC good a).1.cls = .reversal ∧
      (trackFrom thetaP thetaC good a).1.step = 0 ∧
      (trackFrom thetaP thetaC good a).2.cycle = a.cycle)

/-- R9: the crossing test, the frames of step 0, and what a window of a given step crosses. -/
def Obligations.CrossingTestOfAWindow : Prop :=
  (∀ (f : FrameInfo) (a : Nat), f.start < 65536 → a < 65536 →
    (crosses f a = true ↔
      0 < ((a : Int) - f.start) % 65536 ∧ ((a : Int) - f.start) % 65536 ≤ f.step)) ∧
  (∀ (f : FrameInfo) (a : Nat), f.step = 0 → crosses f a = false) ∧
  (∀ f : FrameInfo, f.start < 65536 → crosses f f.start = false) ∧
  (∀ (f : FrameInfo), f.start < 65536 → 0 < f.step → f.step < 65536 →
    crosses f ((f.start + f.step) % 65536) = true) ∧
  (∀ f : FrameInfo, f.start < 65536 → f.step < 65536 →
    ((List.range 65536).filter (crosses f)).length = f.step) ∧
  (∀ (thetaP thetaC : Nat) (good : Bool) (a : Ant), thetaP < 65536 → thetaC < 65536 →
    ((trackFrom thetaP thetaC good a).1.cls = .boundary →
      crosses (trackFrom thetaP thetaC good a).1 0 = true) ∧
    ((trackFrom thetaP thetaC good a).1.cls = .advance →
      crosses (trackFrom thetaP thetaC good a).1 0 = false) ∧
    ((trackFrom thetaP thetaC good a).1.cls = .reversal → (trackFrom thetaP thetaC good a).1.step = 0)) ∧
  (∀ (theta : Nat) (a : Ant), (establish theta a).1.step = 0 ∧ (unestablish a).1.step = 0)

/-- R93: the term scaling, its range, and the value 0. -/
def Obligations.TermIsTheRoundedProduct : Prop :=
  ∀ (a : Nat) (s : Int), a ≤ 65535 → -32767 ≤ s → s ≤ 32767 →
    termOf a s * 32768 ≤ a * s + 16384 ∧ a * s + 16384 < (termOf a s + 1) * 32768 ∧
    -65533 ≤ termOf a s ∧ termOf a s ≤ 65533 ∧ termOf 0 s = 0

/-- R163: the mask, the cap, the discard. -/
def Obligations.NoticeIsMaskedQueuedOrDiscarded : Prop :=
  ∀ (n : Notice) (s : State),
    (maskEnables s.par.notifyMask n = false → raise n s = s) ∧
    (maskEnables s.par.notifyMask n = true →
      noticeCount s.rpq.queue < 6 → s.rpq.queue.length < 8 →
      raise n s =
        { s with
          rpq :=
            { queue := s.rpq.queue ++ [{ notice := true, words := noticeFrame n s.rpq.lost }]
              lost := false } }) ∧
    (maskEnables s.par.notifyMask n = true →
      6 ≤ noticeCount s.rpq.queue ∨ 8 ≤ s.rpq.queue.length →
      raise n s =
        { s with flags := flagsWith s.flags .noticeLost, rpq := { s.rpq with lost := true } })

/-! ### Frames on DIN -/

/-- R5, R6, R7, R134, R135, R139, R141, R85, and the frame's work on the state after the arrival (R35, R38, R44, R64
to R75, R87 to R95, R100 to R105, R120 to R123, the flags): a good SAMPLE frame with no command in the executor. -/
def Obligations.GoodSampleFrameMovesTheAngleAndTheReceiver : Prop :=
  ∀ (ws : List Word) (s : State), WholeGoodDin typeSample ws s → NoCommand s →
    ∃ t, exec (.sampleFrame ws) s = .next t ∧
      (s.dsr.link ≠ .up →
        t.ant =
          { s.ant with
            thetaP := some (hi16 (ws.getD 1 0)), lastStep := 0
            start := hi16 (ws.getD 1 0), step := 0 } ∧
        t.dsr.selfTimer = none ∧ flagIsSet t.flags .seqGap = flagIsSet s.flags .seqGap) ∧
      (s.dsr.link = .up →
        (∀ p, s.ant.thetaP = some p →
          t.ant = antCompared p (hi16 (ws.getD 1 0)) true s.ant) ∧
        t.dsr.selfTimer = s.dsr.selfTimer ∧
        (flagIsSet t.flags .seqGap = true ↔
          flagIsSet s.flags .seqGap = true ∨
            ∃ e, s.dsr.expected = some e ∧ e ≠ headerSub (ws.headD 0))) ∧
      t.dsr.link = .up ∧ t.dsr.timer = some 160 ∧
      t.dsr.expected = some ((headerSub (ws.headD 0) + 1) % 256) ∧
      t.dsr.control = BitVec.ofNat 8 (field (ws.getD 1 0) 8 8) ∧
      t.dsr.outSeq = (s.dsr.outSeq + 1) % 256 ∧
      t.sau.xHold.a = sampleOf (ws.getD 2 0) ∧ t.sau.xHold.b = sampleOf (ws.getD 3 0) ∧
      t.sau.xHold.c = sampleOf (ws.getD 4 0) ∧
      FrameWorked s.cx.set.length (dsrArrival (.good (readSample ws)) s) t ∧
      t.edt = s.edt ∧ t.par = s.par ∧ t.cw = s.cw ∧ t.up = s.up ∧ t.cmx = s.cmx ∧
      t.mku.syncLevel = s.mku.syncLevel ∧ t.mku.syncCount = s.mku.syncCount ∧
      t.dsr.slot = s.dsr.slot ∧ t.dsr.din = .header ∧ t.pending = s.pending

/-- R3, R4, R134, R135, R140, R85, and the frame's work as on a good frame: a failing SAMPLE frame with no
command in the executor. -/
def Obligations.FailingSampleFrameIsExtrapolated : Prop :=
  ∀ (ws : List Word) (s : State), WholeFailingDin ws s → headerType (ws.headD 0) ≠ typeCommand →
    NoCommand s →
    ∃ t, exec (.sampleFrame ws) s = .next t ∧
      t.ant = antHeld s.ant ∧ flagIsSet t.flags .sampleCheck = true ∧
      t.sau = s.sau ∧ t.dsr.expected = s.dsr.expected.map (fun e => (e + 1) % 256) ∧
      t.dsr.control = s.dsr.control ∧ t.dsr.link = s.dsr.link ∧ t.dsr.timer = s.dsr.timer ∧
      t.dsr.selfTimer = (if s.dsr.link = .up then s.dsr.selfTimer else some 20) ∧
      t.dsr.outSeq = (s.dsr.outSeq + 1) % 256 ∧
      FrameWorked s.cx.set.length (dsrArrival .failing s) t ∧
      t.edt = s.edt ∧ t.par = s.par ∧ t.cw = s.cw ∧ t.up = s.up ∧ t.cmx = s.cmx ∧
      t.mku.syncLevel = s.mku.syncLevel ∧ t.mku.syncCount = s.mku.syncCount ∧
      t.dsr.slot = s.dsr.slot ∧ t.dsr.din = .header ∧ t.pending = s.pending

/-- R140, R3, R4, R85, and the frame's work as on a good frame: the self-frame timer runs out with no command in
the executor (the row: log 1). -/
def Obligations.SelfGeneratedFrameFillsTheSilence : Prop :=
  ∀ s : State, s.dsr.link ≠ .up → s.dsr.selfTimer = some 1 → NoCommand s →
    ∃ t, exec .selfGeneratedFrame s = .next t ∧
      t.ant = antHeld s.ant ∧ t.sau = s.sau ∧ t.dsr.selfTimer = some 20 ∧
      t.dsr.link = s.dsr.link ∧ t.dsr.timer = s.dsr.timer ∧ t.dsr.expected = s.dsr.expected ∧
      t.dsr.control = s.dsr.control ∧ t.dsr.outSeq = (s.dsr.outSeq + 1) % 256 ∧
      FrameWorked s.cx.set.length s t ∧
      t.edt = s.edt ∧ t.par = s.par ∧ t.cw = s.cw ∧ t.up = s.up ∧ t.cmx = s.cmx ∧
      t.mku.syncLevel = s.mku.syncLevel ∧ t.mku.syncCount = s.mku.syncCount ∧
      t.dsr.slot = s.dsr.slot ∧ t.dsr.din = s.dsr.din ∧ t.pending = s.pending

/-- R135, R136, R138, R104, R108: exactly one OUTPUT frame, handed to DOUT, for each presented frame, whatever
command completes on it: a SAMPLE frame, good or failing, and a self-generated frame (the row: log 1). -/
def Obligations.EachPresentedFrameHandsOverOneOutputFrame : Prop :=
  (∀ (ws : List Word) (s : State), oneFrame ws = true → s.dsr.din = .header →
    headerType (ws.headD 0) ≠ typeCommand →
    ∃ t, exec (.sampleFrame ws) s = .next t ∧
      t.dsr.outSeq = (s.dsr.outSeq + 1) % 256 ∧
      (t.dsr.sending, t.dsr.outList) =
        handed
          (outputFrame s.dsr.outSeq (t.ant.thetaP.getD 0) (openMarks s)
            (t.lmu.factor == 0 && t.sch.state == .faulted) (!dinGood ws) false t.dsr.control
            t.lmu.yPrev)
          s.dsr) ∧
  (∀ s : State, s.dsr.link ≠ .up → s.dsr.selfTimer = some 1 →
    ∃ t, exec .selfGeneratedFrame s = .next t ∧
      t.dsr.outSeq = (s.dsr.outSeq + 1) % 256 ∧
      (t.dsr.sending, t.dsr.outList) =
        handed
          (outputFrame s.dsr.outSeq (t.ant.thetaP.getD 0) (openMarks s)
            (t.lmu.factor == 0 && t.sch.state == .faulted) true true s.dsr.control t.lmu.yPrev)
          s.dsr)

/-- R100, R101, R102: every emitted sample of a presented frame, received or self-generated, is within the peak
limit in force, and within the slew limit of the sample before it unless that one lies outside the peak
limit. -/
def Obligations.EmittedSamplesKeepThePeakAndSlewLimits : Prop :=
  ∀ (ws : List Word) (s t : State) (p : Phase),
    ((oneFrame ws = true ∧ s.dsr.din = .header ∧ headerType (ws.headD 0) ≠ typeCommand ∧
        exec (.sampleFrame ws) s = .next t) ∨
      (s.dsr.link ≠ .up ∧ s.dsr.selfTimer = some 1 ∧ exec .selfGeneratedFrame s = .next t)) →
    -(t.par.peak.get p : Int) ≤ t.lmu.yPrev.get p ∧ t.lmu.yPrev.get p ≤ t.par.peak.get p ∧
    (-(t.par.peak.get p : Int) ≤ s.lmu.yPrev.get p → s.lmu.yPrev.get p ≤ t.par.peak.get p →
      t.lmu.yPrev.get p - s.lmu.yPrev.get p ≤ t.par.slew.get p ∧
      s.lmu.yPrev.get p - t.lmu.yPrev.get p ≤ t.par.slew.get p)

/-- R95, R87, R88, R100, R101: with no context, no fold-back, no mute and the power-on limits, a good
SAMPLE frame's samples are emitted as they came, but for -131072. -/
def Obligations.AtRestTheSamplesPassUnchanged : Prop :=
  ∀ (ws : List Word) (s : State), WholeGoodDin typeSample ws s → NoCommand s →
    s.cx.set = [] → s.lmu.mute = .unmuted →
    (∀ p, (s.cw.get p).fold = 16384 ∧ s.par.slew.get p = 262143 ∧ s.par.peak.get p = 131071 ∧
      -131071 ≤ s.lmu.yPrev.get p ∧ s.lmu.yPrev.get p ≤ 131071) →
    ∃ t, exec (.sampleFrame ws) s = .next t ∧
      t.lmu.yPrev.a = max (sampleOf (ws.getD 2 0)) (-131071) ∧
      t.lmu.yPrev.b = max (sampleOf (ws.getD 3 0)) (-131071) ∧
      t.lmu.yPrev.c = max (sampleOf (ws.getD 4 0)) (-131071) ∧
      t.lmu.factor = 16384 ∧ t.lmu.mute = .unmuted

/-- R147, R148, R149, R151, R140: the command in the executor is carried out at the arrival of the frame presented,
received or self-generated, the frame's work meets what it did, and its response, formed after that work, joins
behind the notices. Whether the DSR's share of the arrival came before is open where it can be seen (log 7, log 22),
and a free choice may have been made. -/
def Obligations.TheTakenCommandIsAnsweredOnTheFrame : Prop :=
  ∀ (i : Instr) (p : Presented) (s before : State) (c : Cmd), Presents i p s before →
    s.cmx.exec = .executing c →
    ∃ u a b w, (u = before ∨ u = { before with freeCount := before.freeCount + 1 }) ∧
      ((a = commandArrives c (dsrArrival p u) ∧ b = a.2) ∨
        (a = commandArrives c u ∧ b = dsrArrival p a.2)) ∧
      exec i s = .next (answered c (formAnswer a.1 w).1 (formAnswer a.1 w).2 w) ∧
      FrameWorked s.cx.set.length b w ∧
      w.ant = (track (shownAs p s) b.ant).2 ∧
      w.edt = b.edt ∧ w.par = b.par ∧ w.cw = b.cw ∧ w.sau = b.sau ∧ w.up = s.up ∧
      w.dsr.link = b.dsr.link ∧ w.dsr.timer = b.dsr.timer ∧ w.dsr.selfTimer = b.dsr.selfTimer ∧
      w.dsr.expected = b.dsr.expected ∧ w.dsr.control = b.dsr.control ∧
      w.dsr.outSeq = (s.dsr.outSeq + 1) % 256 ∧
      (∀ k, k < 4 →
        w.mku.markers.get k = b.mku.markers.get k ∨
          w.mku.markers.get k = { b.mku.markers.get k with state := .spent }) ∧
      w.mku.syncLevel = s.mku.syncLevel ∧ w.mku.syncCount = s.mku.syncCount ∧
      w.cmx = s.cmx ∧ w.pending = s.pending ∧
      s.rpq.queue <+: w.rpq.queue ∧
      (∀ r, r ∈ w.rpq.queue.drop s.rpq.queue.length → r.notice = true)

/-- R137, R146, R147, R171: a good ENGINE command is accepted, or dropped as overrun. -/
def Obligations.EngineCommandIsAcceptedOrOverruns : Prop :=
  ∀ (ws : List Word) (s : State), WholeGoodDin typeCommand ws s → headerSub (ws.headD 0) = 0 →
    (s.cmx.buffer.length < 2 →
      exec (.commandFrame ws) s =
        .next
          { s with
            cmx :=
              if s.cmx.exec = .idle then
                afterResponse
                  (s.cmx.buffer ++
                    [{ code := BitVec.ofNat 16 (hi16 (ws.getD 1 0))
                       tag := BitVec.ofNat 16 (lo16 (ws.getD 1 0))
                       payload := (ws.drop 2).dropLast }])
              else
                { s.cmx with
                  buffer :=
                    s.cmx.buffer ++
                      [{ code := BitVec.ofNat 16 (hi16 (ws.getD 1 0))
                         tag := BitVec.ofNat 16 (lo16 (ws.getD 1 0))
                         payload := (ws.drop 2).dropLast }] } }) ∧
    (2 ≤ s.cmx.buffer.length →
      exec (.commandFrame ws) s =
        .next
          (raise (.overrun (BitVec.ofNat 16 (lo16 (ws.getD 1 0))))
            { s with flags := flagsWith s.flags .cmdOverrun }))

/-- R137, R138: a good STAGE frame fills the Forward Slot or overruns it; a failing COMMAND frame and one
with an undefined destination are dropped. -/
def Obligations.OtherCommandFramesAreForwardedOrDropped : Prop :=
  ∀ (ws : List Word) (s : State),
    (WholeGoodDin typeCommand ws s → headerSub (ws.headD 0) = 1 → s.dsr.slot = none →
      exec (.commandFrame ws) s =
        .next { s with dsr := { s.dsr with slot := some ws, slotHanded := false } }) ∧
    (WholeGoodDin typeCommand ws s → headerSub (ws.headD 0) = 1 → s.dsr.slot ≠ none →
      exec (.commandFrame ws) s = .next { s with flags := flagsWith s.flags .fwdOverrun }) ∧
    (WholeGoodDin typeCommand ws s → 2 ≤ headerSub (ws.headD 0) →
      exec (.commandFrame ws) s = .next { s with flags := flagsWith s.flags .cmdCheck }) ∧
    (WholeFailingDin ws s → headerType (ws.headD 0) = typeCommand →
      exec (.commandFrame ws) s = .next { s with flags := flagsWith s.flags .cmdCheck })

/-! ### Frames on UIN, sending, losses

The rows of losses and of the cadence are the share of the tick on which the timer runs out (log 1); the rows of
sendings say when a sending ends (log 14). -/

/-- R110 to R114, R121, R48, R142 to R144: a good MEASUREMENT frame, in every state. At the end of a declared loss
the LINK notice comes before or after what the frame brings (log 9). -/
def Obligations.MeasurementFrameUpdatesTheCurrentWatch : Prop :=
  ∀ (ws : List Word) (s : State), WholeGoodUin typeMeasurement ws s →
    ∃ t, exec (.measurementFrame ws) s = .next t ∧
      t.cw.a =
        watched (decide (s.par.ilim.a < (sampleOf (ws.getD 1 0)).natAbs)) s.par s.cw.a ∧
      t.cw.b =
        watched (decide (s.par.ilim.b < (sampleOf (ws.getD 2 0)).natAbs)) s.par s.cw.b ∧
      t.cw.c =
        watched (decide (s.par.ilim.c < (sampleOf (ws.getD 3 0)).natAbs)) s.par s.cw.c ∧
      (flagIsSet t.flags (.trip .a) = true ↔
        flagIsSet s.flags (.trip .a) = true ∨
          trips (decide (s.par.ilim.a < (sampleOf (ws.getD 1 0)).natAbs)) s.par s.cw.a = true) ∧
      (flagIsSet t.flags (.trip .b) = true ↔
        flagIsSet s.flags (.trip .b) = true ∨
          trips (decide (s.par.ilim.b < (sampleOf (ws.getD 2 0)).natAbs)) s.par s.cw.b = true) ∧
      (flagIsSet t.flags (.trip .c) = true ↔
        flagIsSet s.flags (.trip .c) = true ∨
          trips (decide (s.par.ilim.c < (sampleOf (ws.getD 3 0)).natAbs)) s.par s.cw.c = true) ∧
      t.up = forwarded ws (alive s.up) ∧
      t.ant = s.ant ∧ t.edt = s.edt ∧ t.ring = s.ring ∧ t.sau = s.sau ∧ t.dsr = s.dsr ∧
      t.cmx = s.cmx ∧ t.par = s.par ∧ t.lmu.yPrev = s.lmu.yPrev ∧ t.lmu.factor = s.lmu.factor ∧
      t.pending = s.pending ∧
      ∃ f : State → State,
        f = phasesWatched (sampleOf (ws.getD 1 0)) (sampleOf (ws.getD 2 0)) (sampleOf (ws.getD 3 0)) ∧
        (s.up.link ≠ .lost true → t = { f s with up := t.up }) ∧
        (s.up.link = .lost true →
          ∃ u, u = { s with freeCount := s.freeCount + 1 } ∧
            (t = { f (raise (.link true true) u) with up := t.up } ∨
              t = { raise (.link true true) (f u) with up := t.up }))

/-- R142 to R144: a good STAGE_REPORT frame is passed on, and ends a loss. -/
def Obligations.StageReportFrameIsPassedOn : Prop :=
  ∀ (ws : List Word) (s : State), WholeGoodUin typeStageReport ws s →
    (s.up.link ≠ .lost true →
      exec (.stageReportFrame ws) s = .next { s with up := forwarded ws (alive s.up) }) ∧
    (s.up.link = .lost true →
      exec (.stageReportFrame ws) s =
        .next
          { raise (.link true true) { s with up := alive s.up } with
            up := forwarded ws (alive s.up) })

/-- R142 to R144, R149: a good IDLE frame is replaced by the head report or passed on; a HOLDING executor may place
its response in the freed place at once (log 10); at the end of a declared loss the LINK notice comes before or
after that (log 9). -/
def Obligations.IdleFrameCarriesTheHeadReport : Prop :=
  ∀ (ws : List Word) (s : State), WholeGoodUin typeIdle ws s →
    (s.up.link ≠ .lost true →
      ∃ t, exec (.idleFrame ws) s = .next t ∧ IdleHandled ws { s with up := alive s.up } t) ∧
    (s.up.link = .lost true →
      ∃ t u, exec (.idleFrame ws) s = .next t ∧
        u = { s with up := alive s.up, freeCount := s.freeCount + 1 } ∧
        (IdleHandled ws (raise (.link true true) u) t ∨
          ∃ v, IdleHandled ws u v ∧ t = raise (.link true true) v))

/-- R133, R110, R142: a failing frame on UIN is passed on, with MEAS_CHECK where its header names MEASUREMENT.
That the other UIN rows do the same with such words is the model's reading (log 5). -/
def Obligations.FailingUinFrameIsPassedOn : Prop :=
  ∀ (ws : List Word) (s : State), WholeFailingUin ws s →
    exec (.failingUinFrame ws) s =
      .next
        { s with
          flags :=
            if headerType (ws.headD 0) = typeMeasurement then flagsWith s.flags .measCheck else s.flags
          up := forwarded ws s.up } ∧
    exec (.measurementFrame ws) s = exec (.failingUinFrame ws) s ∧
    exec (.stageReportFrame ws) s = exec (.failingUinFrame ws) s ∧
    exec (.idleFrame ws) s = exec (.failingUinFrame ws) s

/-- R136, R138, R142: what the end of a sending on DOUT and on UOUT starts. -/
def Obligations.EndOfASendingStartsTheNext : Prop :=
  ∀ s : State,
    (∀ ws, s.dsr.sending = .output { output := ws, forward := none } → s.dsr.outList = [] →
      exec .doutFrameSent s = .next { s with dsr := { s.dsr with sending := .nothing } }) ∧
    (∀ ws e rest, s.dsr.sending = .output { output := ws, forward := none } →
      s.dsr.outList = e :: rest →
      exec .doutFrameSent s =
        .next { s with dsr := { s.dsr with sending := .output e, outList := rest } }) ∧
    (∀ ws fwd, s.dsr.sending = .output { output := ws, forward := some fwd } →
      exec .doutFrameSent s = .next { s with dsr := { s.dsr with sending := .forwarded fwd } }) ∧
    (∀ fwd, s.dsr.sending = .forwarded fwd → s.dsr.outList = [] →
      exec .doutFrameSent s =
        .next
          { s with dsr := { s.dsr with sending := .nothing, slot := none, slotHanded := false } }) ∧
    (∀ fwd e rest, s.dsr.sending = .forwarded fwd → s.dsr.outList = e :: rest →
      exec .doutFrameSent s =
        .next
          { s with
            dsr :=
              { s.dsr with
                sending := .output e, outList := rest, slot := none, slotHanded := false } }) ∧
    (∀ ws, s.up.sending = some ws → s.up.outList = [] →
      exec .uoutFrameSent s = .next { s with up := { s.up with sending := none } }) ∧
    (∀ ws w rest, s.up.sending = some ws → s.up.outList = w :: rest →
      exec .uoutFrameSent s =
        .next { s with up := { s.up with sending := some w, outList := rest } })

/-- R139, R48, R50, R106: the downstream link timer runs out. -/
def Obligations.DownstreamLossCallsTheSafetyStop : Prop :=
  ∀ s : State, s.dsr.link = .up → s.dsr.timer = some 1 →
    ∃ u, u = faulted .linkDown
          (raise (.link false false)
            { s with dsr := { s.dsr with link := .lost true, timer := none } }) ∧
      exec .downstreamLinkLoss s =
        .next
          { raise (.fault (faultDetails .linkDown s)) u with
            dsr := { s.dsr with link := .lost true, timer := none, selfTimer := some 20 } }

/-- R143, R48: the upstream link timer runs out; a fault comes under FOLDBACK and SAFE alone. -/
def Obligations.UpstreamLossFollowsTheTripAction : Prop :=
  ∀ s : State, s.up.link = .up → s.up.timer = some 1 →
    (s.par.tripAction = .notify →
      exec .upstreamLinkLoss s =
        .next
          { raise (.link true false) s with
            up := { s.up with link := .lost true, timer := none, cadence := some 20 } }) ∧
    (s.par.tripAction ≠ .notify →
      ∃ u, u = faulted .linkUpLost
            (raise (.link true false)
              { s with up := { s.up with link := .lost true, timer := none } }) ∧
        exec .upstreamLinkLoss s =
          .next
            { raise (.fault (faultDetails .linkUpLost s)) u with
              up := { s.up with link := .lost true, timer := none, cadence := some 20 } })

/-- R143, R149, R147: the upstream cadence timer runs out; a HOLDING executor places its response, in the step
that frees the place or, by the model's choice, in the row HELD_RESPONSE_PLACED (log 10), which without a place
changes nothing (log 2). -/
def Obligations.CadenceAndFreedPlaceMoveTheReports : Prop :=
  ∀ s : State,
    (s.up.link ≠ .up → s.up.cadence = some 1 →
      (s.rpq.queue = [] ∨ s.up.outList ≠ [] →
        exec .upstreamCadenceExpiry s = .next { s with up := { s.up with cadence := some 20 } }) ∧
      (∀ r rest, s.rpq.queue = r :: rest → s.up.outList = [] →
        ∃ t, exec .upstreamCadenceExpiry s = .next t ∧
          PlaceFreed
            { s with
              up := placed r.words { s.up with cadence := some 20 }
              rpq := { s.rpq with queue := rest } }
            t)) ∧
    (∀ r : Report, s.cmx.exec = .holding r →
      (s.rpq.queue.length < 8 →
        exec .heldResponsePlaced s =
          .next
            { s with
              rpq := { s.rpq with queue := s.rpq.queue ++ [r] }
              cmx := afterResponse s.cmx.buffer }) ∧
      (8 ≤ s.rpq.queue.length → exec .heldResponsePlaced s = .next s))

/-! ### Ticks and events inside one block

Each event row is the share of its step in which the event falls (the model's reading, log 1), on the present
frame with the held crossing window (log 25). -/

/-- R122, R127, R139, R140, R143: a tick on which nothing runs out, one on which a held response takes its place,
and one on which one count runs out, which is then the row of that count, before or after the trigger timer's
share. That the row is the whole tick is the model's reading (log 4); the orders are open (log 8, log 10). -/
def Obligations.TickCountsEveryTimer : Prop :=
  (∀ (level : Level) (s : State), (∀ r, s.cmx.exec ≠ .holding r) →
    (level = s.mku.syncLevel ∨ s.mku.syncCount + 1 < s.par.syncQual) →
    (s.dsr.link = .up → ∃ n, 2 ≤ n ∧ s.dsr.timer = some n) →
    (s.dsr.link ≠ .up → ∃ n, 2 ≤ n ∧ s.dsr.selfTimer = some n) →
    (s.up.link = .up → ∃ n, 2 ≤ n ∧ s.up.timer = some n) →
    (s.up.link ≠ .up → ∃ n, 2 ≤ n ∧ s.up.cadence = some n) →
    exec (.microsecondTick level) s =
      .next
        { s with
          mku :=
            { s.mku with
              pulse := s.mku.pulse - 1
              syncCount := if level = s.mku.syncLevel then 0 else s.mku.syncCount + 1 }
          dsr :=
            { s.dsr with
              timer := if s.dsr.link = .up then s.dsr.timer.map (· - 1) else s.dsr.timer
              selfTimer := if s.dsr.link = .up then s.dsr.selfTimer else s.dsr.selfTimer.map (· - 1) }
          up :=
            { s.up with
              timer := if s.up.link = .up then s.up.timer.map (· - 1) else s.up.timer
              cadence := if s.up.link = .up then s.up.cadence else s.up.cadence.map (· - 1) } }) ∧
  (∀ (level : Level) (s : State) (r : Report), s.cmx.exec = .holding r → s.rpq.queue.length < 8 →
    tickRows level s = [] →
    exec (.microsecondTick level) s =
      .next
        { pulseDown (counted level s) with
          freeCount := s.freeCount + 1
          rpq := { s.rpq with queue := s.rpq.queue ++ [r] }
          cmx := afterResponse s.cmx.buffer }) ∧
  (∀ (level : Level) (s u : State) (row : Instr), (∀ r, s.cmx.exec = .holding r → 8 ≤ s.rpq.queue.length) →
    tickRows level s = [row] → u = { counted level s with freeCount := s.freeCount + 1 } →
    exec (.microsecondTick level) s = exec row (pulseDown u) ∨
      ∃ v, exec row u = .next v ∧ exec (.microsecondTick level) s = .next (pulseDown v))

/-- R127, R128, R55, R56, R121 to R123: the sample that qualifies the other level of SYNC_IN: what it leaves alone,
and, where the edge matches, the Scheduler's share and then the firing of the SYNC markers. -/
def Obligations.SyncEdgeReachesTheScheduler : Prop :=
  ∀ s : State, s.par.syncQual ≤ s.mku.syncCount + 1 →
    ∃ t u, exec .syncInEdge s = .next t ∧
      u = { s with mku := { s.mku with syncLevel := t.mku.syncLevel, syncCount := 0 } } ∧
      t.mku.syncLevel ≠ s.mku.syncLevel ∧ t.mku.syncCount = 0 ∧
      t.ant = s.ant ∧ t.edt = s.edt ∧ t.ring = s.ring ∧ t.sau = s.sau ∧ t.lmu = s.lmu ∧
      t.cw = s.cw ∧ t.dsr = s.dsr ∧ t.up = s.up ∧ t.cmx = s.cmx ∧ t.par = s.par ∧
      t.pending = s.pending ∧
      (edgeMatches s.par.syncEdge t.mku.syncLevel = false → t = u) ∧
      (edgeMatches s.par.syncEdge t.mku.syncLevel = true →
        (s.sch.state = .halted ∨ s.sch.state = .faulted →
          t = fired .sync { u with flags := flagsWith s.flags .syncIgnored } ∧
          flagIsSet t.flags .syncIgnored = true ∧ t.cx = s.cx ∧ t.sch = s.sch) ∧
        (s.sch.state = .running ∨ s.sch.state = .stepping →
          flagIsSet t.flags .syncIgnored = flagIsSet s.flags .syncIgnored ∧
          (s.par.syncOffset = none →
            t = fired .sync u ∧ t.cx.set.map (·.index) = s.cx.set.map (·.index)) ∧
          (∀ o head, s.par.syncOffset = some o → head = (s.sch.planBase + o) % 256 →
            (∀ i, walk s.edt head = .empty i → t = fired .sync (chainFault (.emptyDesc i) u)) ∧
            (walk s.edt head = .long → t = fired .sync (chainFault (.chainLong head) u)) ∧
            (∀ l, walk s.edt head = .ok l → t = fired .sync (l.foldl (offered .sync) u)) ∧
            (∀ d, tableGet s.edt head = some d → linksWith d = false →
              findCtx s.cx.set head = none → s.cx.set.length < 8 →
              t =
                  fired .sync
                    { u with
                      cx :=
                        { set := s.cx.set ++ [joined head d .sync ((s.cx.activation + 1) % 65536)]
                          activation := (s.cx.activation + 1) % 65536 } } ∧
              t.cx.set.map (·.index) = s.cx.set.map (·.index) ++ [head] ∧
              t.cx.activation = (s.cx.activation + 1) % 65536))))

/-- R122, R105: the last tick of a pulse, the thirty-second frame of a mute and of an unmute ramp. -/
def Obligations.PulseAndMuteRampsRunOut : Prop :=
  ∀ s : State,
    (s.mku.pulse = 1 → exec .pulseEnd s = .next { s with mku := { s.mku with pulse := 0 } }) ∧
    (s.lmu.mute = .muting → s.lmu.rampStep = 31 →
      exec .muteRampEnd s =
        .next { s with lmu := { s.lmu with mute := .muted, factor := 0, rampStep := 0 } }) ∧
    (s.lmu.mute = .unmuting → s.lmu.rampStep = 31 →
      exec .unmuteRampEnd s =
        .next { s with lmu := { s.lmu with mute := .unmuted, factor := 16384, rampStep := 0 } })

/-- R111, R113, R114, R121 to R123, R48: a NORMAL phase whose count reaches TRIP_QUAL with a frame over on it (log
23): flag, TRIP notice, the firing of the TRIP markers, then the trip action. -/
def Obligations.TripTakesTheActionInForce : Prop :=
  ∀ (p : Phase) (s : State), (s.cw.get p).tripped = false →
    s.par.tripQual ≤ countAfter true (s.cw.get p).overs →
    ∃ t, exec (.trip p) s = .next t ∧
      t.cw.get p = watched true s.par (s.cw.get p) ∧ (t.cw.get p).tripped = true ∧
      (∀ q, q ≠ p → t.cw.get q = s.cw.get q) ∧ flagIsSet t.flags (.trip p) = true ∧
      (s.par.tripAction = .safe →
        t.sch.state = .faulted ∧ (s.sch.fault = none →
          t.sch.fault = some (faultDetails (.trip p) s)) ∧
        (s.sch.state ≠ .faulted → t.cx.set = [] ∧ t.lmu.mute = .muting ∧
          t.lmu.rampStart = s.lmu.factor ∧ t.lmu.rampStep = 0)) ∧
      (s.par.tripAction ≠ .safe → t.lmu = s.lmu ∧
        (s.sch.state = .faulted ↔ t.sch.state = .faulted)) ∧
      t.ant = s.ant ∧ t.edt = s.edt ∧ t.ring = s.ring ∧ t.sau = s.sau ∧ t.dsr = s.dsr ∧
      t.up = s.up ∧ t.cmx = s.cmx ∧ t.par = s.par ∧ t.lmu.factor = s.lmu.factor ∧
      t.lmu.yPrev = s.lmu.yPrev ∧ t.pending = s.pending ∧
      ∃ v, v =
          fired .trip
            (raise (.trip p s.par.tripAction)
              { s with
                cw :=
                  s.cw.set p
                    { s.cw.get p with
                      overs := countAfter true (s.cw.get p).overs, tripped := true }
                flags := flagsWith s.flags (.trip p) }) ∧
        (s.par.tripAction ≠ .safe → t = { v with cw := t.cw }) ∧
        (s.par.tripAction = .safe →
          t = raise (.fault (faultDetails (.trip p) s)) (faulted (.trip p) v))

/-- R66, R67, R80, R121: a late start of the context of an index, on a boundary that does not cross its start
angle, with its CTX_START notice at any place before, between or behind the firings of the DESC_START markers. -/
def Obligations.LateStartBeginsALife : Prop :=
  ∀ (i : Nat) (s : State) (c : Ctx), findCtx s.cx.set i = some c → c.life = .wait → c.bounds = 1 →
    crosses (presentFrameInfo .boundary s) c.snap.alpha = false →
    ∃ t u, exec (.lateStart i) s = .next t ∧ flagIsSet t.flags .startLate = true ∧
      Started i c.snap t ∧ t.cx.set.map (·.index) = s.cx.set.map (·.index) ∧
      t.cx.activation = s.cx.activation ∧ OutsideContexts s t ∧ t.ring = s.ring ∧
      u =
        { s with
          cx := { s.cx with set := setWith i (fun _ => started c) s.cx.set }
          flags := flagsWith s.flags .startLate } ∧
      NoticeWithFiring (c.snap.notify = .start ∨ c.snap.notify = .both)
        (.ctxStart i (min (c.lives + 1) 255) s.ant.cycle true) (.descStart i) u t

/-- R74, R65, R67, R80, R121: the boundary that completes a gap; the frame goes on by the WAIT rule, and where it
starts a life, CTX_START stands at any place before, between or behind the firings of the DESC_START markers. -/
def Obligations.GapEndEntersWaitOnTheSameFrame : Prop :=
  ∀ (i : Nat) (s : State) (c : Ctx), findCtx s.cx.set i = some c → c.life = .gap →
    c.bounds + 1 = c.snap.gap →
    (crosses (presentFrameInfo .boundary s) c.snap.alpha = false →
      exec (.gapEnd i) s =
        .next
          { s with
            cx :=
              { s.cx with
                set :=
                  setWith i (fun _ => { c with life := .wait, bounds := 1, value := neutralOf c.snap.kind })
                    s.cx.set } }) ∧
    (crosses (presentFrameInfo .boundary s) c.snap.alpha = true →
      ∃ t, exec (.gapEnd i) s = .next t ∧ Started i c.snap t ∧
        t.cx.set.map (·.index) = s.cx.set.map (·.index) ∧ t.cx.activation = s.cx.activation ∧
        OutsideContexts s t ∧
        NoticeWithFiring (c.snap.notify = .start ∨ c.snap.notify = .both)
          (.ctxStart i (min (c.lives + 1) 255) s.ant.cycle false) (.descStart i)
          { s with cx := { s.cx with set := setWith i (fun _ => started c) s.cx.set } } t)

/-- R68, R72: the last frame of a ramp-in. -/
def Obligations.RampInEndEntersHold : Prop :=
  ∀ (i : Nat) (s : State) (c : Ctx), findCtx s.cx.set i = some c → c.life = .rampIn →
    c.stepCount + 1 = c.snap.rampIn →
    exec (.rampInEnd i) s =
      .next
        { s with
          cx :=
            { s.cx with
              set :=
                setWith i
                  (fun _ =>
                    { c with
                      life := .hold
                      value := if c.snap.kind = .openCircuit then 0 else c.snap.level
                      stepCount := 0
                      bounds := 0
                      tone :=
                        if c.snap.kind = .tone then (c.tone + c.snap.freq) % 4294967296 else c.tone })
                  s.cx.set } }

/-- R69, R73, R75, R81, R54, R56, R121: the last frame of a ramp-out, by the ways a life can go on or end: CTX_END
at any place before, between or behind the firings of the DESC_END markers, then the chain, which is armed or whose walk is a fault (log 27). -/
def Obligations.RampOutEndDecidesTheNextLife : Prop :=
  ∀ (i : Nat) (s : State) (c : Ctx), findCtx s.cx.set i = some c → c.life = .rampOut →
    c.stepCount + 1 = c.snap.rampOut →
    (c.mark = .none → (c.snap.repeats = 0 ∨ min (c.lives + 1) 255 ≠ c.snap.repeats) →
      exec (.rampOutEnd i) s =
        .next
          { s with
            cx :=
              { s.cx with
                set :=
                  setWith i
                    (fun _ =>
                      { c with
                        life := if 1 ≤ c.snap.gap then .gap else .wait
                        value := neutralOf c.snap.kind
                        stepCount := c.snap.rampOut
                        bounds := 0
                        lives := min (c.lives + 1) 255
                        tone :=
                          if c.snap.kind = .tone then (c.tone + c.snap.freq) % 4294967296
                          else c.tone })
                    s.cx.set } }) ∧
    (c.mark = .abort →
      exec (.rampOutEnd i) s =
        .next
          (raiseIf (c.snap.notify = .finish ∨ c.snap.notify = .both) (.ctxEnd i true s.ant.cycle)
            { s with cx := { s.cx with set := s.cx.set.filter (fun d => d.index != i) } })) ∧
    (c.mark = .halt ∨ (c.mark = .none ∧ c.snap.repeats ≠ 0 ∧ min (c.lives + 1) 255 = c.snap.repeats ∧
        linksAfter c.snap = false) →
      ∃ t, exec (.rampOutEnd i) s = .next t ∧
        t.cx.set.map (·.index) = (s.cx.set.map (·.index)).filter (fun j => j != i) ∧
        t.cx.activation = s.cx.activation ∧ OutsideContexts s t ∧
        NoticeWithFiring (c.snap.notify = .finish ∨ c.snap.notify = .both)
          (.ctxEnd i false s.ant.cycle) (.descEnd i)
          { s with cx := { s.cx with set := s.cx.set.filter (fun d => d.index != i) } } t) ∧
    (c.mark = .none → c.snap.repeats ≠ 0 → min (c.lives + 1) 255 = c.snap.repeats →
      linksAfter c.snap = true → s.sch.state ≠ .faulted →
      ∃ t v, exec (.rampOutEnd i) s = .next t ∧
        NoticeWithFiring (c.snap.notify = .finish ∨ c.snap.notify = .both)
          (.ctxEnd i false s.ant.cycle) (.descEnd i)
          { s with cx := { s.cx with set := s.cx.set.filter (fun d => d.index != i) } } v ∧
        (∀ k, walk s.edt (linkIndex i c.snap.next) = .empty k →
          t = chainFault (.emptyDesc k) v) ∧
        (walk s.edt (linkIndex i c.snap.next) = .long →
          t = chainFault (.chainLong (linkIndex i c.snap.next)) v) ∧
        (∀ l, walk s.edt (linkIndex i c.snap.next) = .ok l → t = l.foldl (offered .chain) v)) ∧
    (∀ d, c.mark = .none → c.snap.repeats ≠ 0 → min (c.lives + 1) 255 = c.snap.repeats →
      linksAfter c.snap = true → s.sch.state ≠ .faulted →
      tableGet s.edt (linkIndex i c.snap.next) = some d → linksWith d = false →
      (∀ e, e ∈ s.cx.set → e.index ≠ i → e.index ≠ linkIndex i c.snap.next) →
      s.cx.set.length ≤ 8 →
      ∃ t, exec (.rampOutEnd i) s = .next t ∧
        t.cx.set.map (·.index) =
          (s.cx.set.map (·.index)).filter (fun j => j != i) ++ [linkIndex i c.snap.next] ∧
        t.cx.activation = (s.cx.activation + 1) % 65536 ∧ OutsideContexts s t)

/-- R71, R70: the HOLD frame that completes a flicker half and does not end the hold. -/
def Obligations.FlickerHalfChangeTurnsTheHalf : Prop :=
  ∀ (i : Nat) (s : State) (c : Ctx), findCtx s.cx.set i = some c → c.life = .hold →
    c.snap.kind = .flicker → c.flickCount + 1 = c.snap.half →
    (crosses (presentFrameInfo .advance s) c.snap.beta = false ∨ c.bounds < c.snap.hold) →
    exec (.flickerHalfChange i) s =
      .next
        { s with
          cx :=
            { s.cx with
              set :=
                setWith i
                  (fun _ =>
                    { c with
                      value :=
                        if c.flickHalf = .high then 16384 + c.snap.level / 2
                        else 16384 - c.snap.level / 2
                      flickHalf := if c.flickHalf = .high then .low else .high
                      flickCount := 0 })
                  s.cx.set } }

/-- An event row whose event is not due changes nothing (log 2). -/
def Obligations.AnEventThatIsNotDueChangesNothing : Prop :=
  ∀ (i : Nat) (p : Phase) (s : State),
    (s.dsr.link = .up → exec .selfGeneratedFrame s = .next s) ∧
    (s.dsr.link ≠ .up → exec .downstreamLinkLoss s = .next s) ∧
    (s.up.link ≠ .up → exec .upstreamLinkLoss s = .next s) ∧
    (s.up.link = .up → exec .upstreamCadenceExpiry s = .next s) ∧
    (s.mku.syncCount + 1 < s.par.syncQual → exec .syncInEdge s = .next s) ∧
    (s.mku.pulse ≠ 1 → exec .pulseEnd s = .next s) ∧
    ((s.cw.get p).tripped = true → exec (.trip p) s = .next s) ∧
    (s.lmu.mute ≠ .muting → exec .muteRampEnd s = .next s) ∧
    (s.lmu.mute ≠ .unmuting → exec .unmuteRampEnd s = .next s) ∧
    (s.dsr.sending = .nothing → exec .doutFrameSent s = .next s) ∧
    (s.up.sending = none → exec .uoutFrameSent s = .next s) ∧
    (findCtx s.cx.set i = none →
      exec (.lateStart i) s = .next s ∧ exec (.gapEnd i) s = .next s ∧
      exec (.rampInEnd i) s = .next s ∧ exec (.rampOutEnd i) s = .next s ∧
      exec (.flickerHalfChange i) s = .next s)

/-! ### Engine commands

A command row completes at once where the executor is IDLE or holds that command (`Takes`; the model's choice,
log 3). -/

/-- R151: the common checks, for every command row. -/
def Obligations.CommonChecksRefuseBadCodeAndBadLength : Prop :=
  (∀ (i : Instr) (c : Cmd) (s : State), commandOf i = some c → Takes c s →
    requiredLength c.code c.payload ≠ some c.payload.length →
    exec i s = .next (answered c .badLength [] s)) ∧
  (∀ (code : Code) (tag : Tag) (payload : List Word) (s : State),
    requiredLength code payload = none → Takes ⟨code, tag, payload⟩ s →
    exec (.undefinedCommandCode code tag payload) s =
      .next (answered ⟨code, tag, payload⟩ .badCode [] s))

/-- R153, R155, R82, R126: the commands that read without arguments, with the words of their records. Bits that no
field names and the pending plan base where none is held are 0: the model's choices (log 28, log 17). -/
def Obligations.ReadingCommandsReturnTheRecords : Prop :=
  ∀ (tag : Tag) (s : State),
    (Takes ⟨codeIdentify, tag, []⟩ s →
      exec (.identify tag []) s =
        .next
          (answered ⟨codeIdentify, tag, []⟩ .ok [0x0EF5191E, 0x01040800, 0x01000200] s)) ∧
    (Takes ⟨codeGetStatus, tag, []⟩ s →
      exec (.getStatus tag []) s =
        .next (answered ⟨codeGetStatus, tag, []⟩ .ok (statusWords s) s)) ∧
    (Takes ⟨codeReadContexts, tag, []⟩ s →
      exec (.readContexts tag []) s =
        .next
          (answered ⟨codeReadContexts, tag, []⟩ .ok
            (BitVec.ofNat 32 s.cx.set.length :: s.cx.set.flatMap contextWords) s)) ∧
    (Takes ⟨codeReadMarkers, tag, []⟩ s →
      exec (.readMarkers tag []) s =
        .next
          (answered ⟨codeReadMarkers, tag, []⟩ .ok
            (markerWords s.mku.markers.m0 ++ markerWords s.mku.markers.m1 ++
              markerWords s.mku.markers.m2 ++ markerWords s.mku.markers.m3 ++
              [word4 (if 0 < s.mku.pulse then 1 else 0) (if s.mku.syncLevel = .high then 1 else 0) 0
                s.mku.pulse])
            s))

/-- R158, R29, R40: the commands that read by an index, with the words of their records. Bits that no field names
and bits 15-0 beside NONE are 0: the model's choices (log 28, log 29). -/
def Obligations.IndexedReadsReturnTheEntry : Prop :=
  ∀ (tag : Tag) (w : Word) (s : State),
    (Takes ⟨codeGetParam, tag, [w]⟩ s →
      exec (.getParam tag [w]) s =
        .next
          (if 20 < w.toNat then answered ⟨codeGetParam, tag, [w]⟩ .badIndex [] s
           else answered ⟨codeGetParam, tag, [w]⟩ .ok [(paramWords s).getD w.toNat 0] s)) ∧
    (Takes ⟨codeReadDesc, tag, [w]⟩ s →
      exec (.readDesc tag [w]) s =
        .next
          (if 255 < w.toNat then answered ⟨codeReadDesc, tag, [w]⟩ .badIndex [] s
           else
             match tableGet s.edt w.toNat with
             | none => answered ⟨codeReadDesc, tag, [w]⟩ .empty [] s
             | some d => answered ⟨codeReadDesc, tag, [w]⟩ .ok (descWords d) s)) ∧
    (Takes ⟨codeReadSlots, tag, [w]⟩ s →
      exec (.readSlots tag [w]) s =
        .next
          (if hi16 w ≤ 511 ∧ 1 ≤ lo16 w ∧ lo16 w ≤ 30 ∧ hi16 w + lo16 w ≤ 512 then
             answered ⟨codeReadSlots, tag, [w]⟩ .ok
               ((List.range (lo16 w)).map (fun k => slotWord (tableGet s.ring (hi16 w + k)))) s
           else answered ⟨codeReadSlots, tag, [w]⟩ .badIndex [] s))

/-- R156: one reading and clearing. Bits 31-23 of the payload, which no flag names, are 0: the model's choice
(log 28). -/
def Obligations.TakeFlagsReadsAndClears : Prop :=
  ∀ (tag : Tag) (mask : Word) (s : State), Takes ⟨codeTakeFlags, tag, [mask]⟩ s →
    (8388608 ≤ mask.toNat →
      exec (.takeFlags tag [mask]) s =
        .next (answered ⟨codeTakeFlags, tag, [mask]⟩ .badField [] s)) ∧
    (mask.toNat < 8388608 →
      ∃ t, exec (.takeFlags tag [mask]) s =
          .next (answered ⟨codeTakeFlags, tag, [mask]⟩ .ok [s.flags.setWidth 32] t) ∧
        t = { s with flags := t.flags } ∧
        ∀ k, k < 23 → t.flags.getLsbD k = (s.flags.getLsbD k && !mask.getLsbD k))

/-- R157, R159, R102, R115: a number is written, clamped to its range, and nothing else changes but what
FOLD_FLOOR and PLAN_BASE do at once (their own rows say that). -/
def Obligations.SetParamWritesANumberClamped : Prop :=
  ∀ (tag : Tag) (i lo hi : Nat) (v : Word) (s : State),
    (i, lo, hi) ∈
      [(0, 0, 131071), (1, 0, 131071), (2, 0, 131071), (3, 1, 262143), (4, 1, 262143),
       (5, 1, 262143), (6, 0, 65535), (7, 0, 65535), (8, 0, 65535), (10, 0, 131071),
       (11, 0, 131071), (12, 0, 131071), (13, 1, 255), (15, 1, 4096), (17, 1, 255)] →
    Takes ⟨codeSetParam, tag, [BitVec.ofNat 32 i, v]⟩ s →
    ∃ t, exec (.setParam tag [BitVec.ofNat 32 i, v]) s =
        .next
          (answered ⟨codeSetParam, tag, [BitVec.ofNat 32 i, v]⟩
            (if lo ≤ v.toNat ∧ v.toNat ≤ hi then .ok else .okClamped) [] t) ∧
      paramValue i t =
        BitVec.ofNat 32 (if v.toNat < lo then lo else if hi < v.toNat then hi else v.toNat) ∧
      (∀ j, j ≤ 20 → j ≠ i → paramValue j t = paramValue j s) ∧
      t = { s with par := t.par }

/-- R159, R129, R167, section 11.4.2: the enumerations, SYNC_OFFSET and NOTIFY_MASK, and an index above 20. That
0001h in bits 31-16 is NONE whatever bits 15-0 carry is the model's choice (log 29). -/
def Obligations.SetParamWritesACode : Prop :=
  ∀ (tag : Tag) (v : Word) (s : State),
    (∀ i : Word, 20 < i.toNat → Takes ⟨codeSetParam, tag, [i, v]⟩ s →
      exec (.setParam tag [i, v]) s =
        .next (answered ⟨codeSetParam, tag, [i, v]⟩ .badIndex [] s)) ∧
    (Takes ⟨codeSetParam, tag, [18, v]⟩ s →
      (∀ e, syncEdgeCode e = v.toNat →
        exec (.setParam tag [18, v]) s =
          .next
            (answered ⟨codeSetParam, tag, [18, v]⟩ .ok []
              { s with par := { s.par with syncEdge := e } })) ∧
      (2 < v.toNat →
        exec (.setParam tag [18, v]) s =
          .next (answered ⟨codeSetParam, tag, [18, v]⟩ .badField [] s))) ∧
    (Takes ⟨codeSetParam, tag, [19, v]⟩ s →
      (hi16 v = 0 →
        exec (.setParam tag [19, v]) s =
          .next
            (answered ⟨codeSetParam, tag, [19, v]⟩ (if lo16 v ≤ 255 then .ok else .okClamped) []
              { s with par := { s.par with syncOffset := some (min (lo16 v) 255) } })) ∧
      (hi16 v = 1 →
        exec (.setParam tag [19, v]) s =
          .next
            (answered ⟨codeSetParam, tag, [19, v]⟩ .ok []
              { s with par := { s.par with syncOffset := none } })) ∧
      (2 ≤ hi16 v →
        exec (.setParam tag [19, v]) s =
          .next (answered ⟨codeSetParam, tag, [19, v]⟩ .badField [] s))) ∧
    (Takes ⟨codeSetParam, tag, [20, v]⟩ s →
      (v.toNat ≤ 255 →
        exec (.setParam tag [20, v]) s =
          .next
            (answered ⟨codeSetParam, tag, [20, v]⟩ .ok []
              { s with par := { s.par with notifyMask := v.setWidth 8 } })) ∧
      (255 < v.toNat →
        exec (.setParam tag [20, v]) s =
          .next (answered ⟨codeSetParam, tag, [20, v]⟩ .badField [] s)))

/-- R34: a plan base is current at once in HALTED and pending in the other states. -/
def Obligations.PlanBaseIsCurrentOrPending : Prop :=
  ∀ (tag : Tag) (v : Word) (s : State), Takes ⟨codeSetParam, tag, [9, v]⟩ s →
    exec (.setPlanBase tag v) s =
      .next
        (answered ⟨codeSetParam, tag, [9, v]⟩ (if v.toNat ≤ 255 then .ok else .okClamped) []
          (if s.sch.state = .halted then
             { s with sch := { s.sch with planBase := min v.toNat 255, pendingBase := none } }
           else { s with sch := { s.sch with pendingBase := some (min v.toNat 255) } }))

/-- R115, R116, R159: TRIP_ACTION and FOLD_FLOOR, with what they do at once to the Current Watch. -/
def Obligations.TripActionAndFoldFloorReachTheGains : Prop :=
  ∀ (tag : Tag) (v : Word) (s : State),
    (Takes ⟨codeSetParam, tag, [14, v]⟩ s →
      (∀ a, tripActionCode a = v.toNat → a = s.par.tripAction →
        exec (.setTripAction tag v) s = .next (answered ⟨codeSetParam, tag, [14, v]⟩ .ok [] s)) ∧
      (∀ a, tripActionCode a = v.toNat → a ≠ s.par.tripAction →
        exec (.setTripAction tag v) s =
          .next
            (answered ⟨codeSetParam, tag, [14, v]⟩ .ok []
              { s with
                par := { s.par with tripAction := a }
                cw :=
                  ⟨⟨s.cw.a.overs, false, 16384⟩, ⟨s.cw.b.overs, false, 16384⟩,
                   ⟨s.cw.c.overs, false, 16384⟩⟩ })) ∧
      (2 < v.toNat →
        exec (.setTripAction tag v) s =
          .next (answered ⟨codeSetParam, tag, [14, v]⟩ .badField [] s))) ∧
    (Takes ⟨codeSetParam, tag, [16, v]⟩ s →
      exec (.setFoldFloor tag v) s =
        .next
          (answered ⟨codeSetParam, tag, [16, v]⟩ (if v.toNat ≤ 16384 then .ok else .okClamped) []
            { s with
              par := { s.par with foldFloor := min v.toNat 16384 }
              cw :=
                ⟨{ s.cw.a with fold := max s.cw.a.fold (min v.toNat 16384) },
                 { s.cw.b with fold := max s.cw.b.fold (min v.toNat 16384) },
                 { s.cw.c with fold := max s.cw.c.fold (min v.toNat 16384) }⟩ }))

/-- R160: RESET_ENGINE, refused in FAULTED. -/
def Obligations.ResetEngineReturnsTheMachineryToRest : Prop :=
  ∀ (tag : Tag) (s : State), Takes ⟨codeResetEngine, tag, []⟩ s →
    (s.sch.state = .faulted →
      exec (.resetEngine tag []) s =
        .next (answered ⟨codeResetEngine, tag, []⟩ .busy [] s)) ∧
    (s.sch.state ≠ .faulted →
      ∃ m : Markers,
        (∀ k, k < 4 →
          ((s.mku.markers.get k).state = .spent → m.get k = { s.mku.markers.get k with state := .armed }) ∧
          ((s.mku.markers.get k).state ≠ .spent → m.get k = s.mku.markers.get k)) ∧
        exec (.resetEngine tag []) s =
          .next
            (answered ⟨codeResetEngine, tag, []⟩ .ok []
              { s with
                cx := { s.cx with set := [] }
                sch := { s.sch with state := .halted, pendingBase := none, fault := none }
                ant := { s.ant with cycle := 0 }
                cw := ⟨⟨0, false, 16384⟩, ⟨0, false, 16384⟩, ⟨0, false, 16384⟩⟩
                mku := { s.mku with markers := m }
                flags := 0 }))

/-- R26, R27, R28: WRITE_DESC in the order of its tests, by the values R27 refuses; what it stores. -/
def Obligations.WriteDescStoresTheRecord : Prop :=
  ∀ (tag : Tag) (w : Word) (record : List Word) (s : State), record.length = 8 →
    Takes ⟨codeWriteDesc, tag, w :: record⟩ s →
    (255 < w.toNat →
      exec (.writeDesc tag (w :: record)) s =
        .next (answered ⟨codeWriteDesc, tag, w :: record⟩ .badIndex [] s)) ∧
    (w.toNat ≤ 255 →
      ((s.sch.state = .running ∨ s.sch.state = .stepping) ∧
          (∃ d, tableGet s.edt w.toNat = some d ∧ d.locked = true) →
        exec (.writeDesc tag (w :: record)) s =
          .next
            (answered ⟨codeWriteDesc, tag, w :: record⟩ .protect []
              { s with flags := flagsWith s.flags .protect })) ∧
      (¬((s.sch.state = .running ∨ s.sch.state = .stepping) ∧
          (∃ d, tableGet s.edt w.toNat = some d ∧ d.locked = true)) →
        (DescRefused record →
          exec (.writeDesc tag (w :: record)) s =
            .next (answered ⟨codeWriteDesc, tag, w :: record⟩ .badField [] s)) ∧
        (¬DescRefused record →
          ∃ t d, Stores record d ∧ exec (.writeDesc tag (w :: record)) s =
              .next (answered ⟨codeWriteDesc, tag, w :: record⟩ .ok [] t) ∧
            t = { s with edt := t.edt } ∧
            (tableWf 256 s.edt = true →
              ∀ k, tableGet t.edt k = if k = w.toNat then some d else tableGet s.edt k))))

/-- R30, R28: ERASE_DESC in the order of its tests. -/
def Obligations.EraseDescEmptiesTheEntry : Prop :=
  ∀ (tag : Tag) (w : Word) (s : State), Takes ⟨codeEraseDesc, tag, [w]⟩ s →
    (255 < w.toNat →
      exec (.eraseDesc tag [w]) s = .next (answered ⟨codeEraseDesc, tag, [w]⟩ .badIndex [] s)) ∧
    (w.toNat ≤ 255 →
      ((s.sch.state = .running ∨ s.sch.state = .stepping) ∧
          (∃ d, tableGet s.edt w.toNat = some d ∧ d.locked = true) →
        exec (.eraseDesc tag [w]) s =
          .next
            (answered ⟨codeEraseDesc, tag, [w]⟩ .protect []
              { s with flags := flagsWith s.flags .protect })) ∧
      (¬((s.sch.state = .running ∨ s.sch.state = .stepping) ∧
          (∃ d, tableGet s.edt w.toNat = some d ∧ d.locked = true)) →
        ∃ t, exec (.eraseDesc tag [w]) s =
            .next (answered ⟨codeEraseDesc, tag, [w]⟩ .ok [] t) ∧
          t = { s with edt := t.edt } ∧
          ∀ k, tableGet t.edt k = if k = w.toNat then none else tableGet s.edt k))

/-- R18, R26, R27, R29: a descriptor whose fields are in range, with 0 in those absent for its kind, is read
back from its record of 8 words as it is, and a record is refused for the values of R27 and for no others. -/
def Obligations.DescriptorRecordReadsBack : Prop :=
  (∀ ws : List Word, ws.length = 8 → (readDescRecord ws = none ↔ DescRefused ws)) ∧
  ∀ d : Desc, d.phases ≠ 0 → d.alpha < 65536 → d.beta < 65536 → d.hold < 65536 →
    d.rampIn < 65536 → d.rampOut < 65536 → d.level < 65536 → d.phi < 65536 → d.gap < 65536 →
    d.repeats < 256 → -128 ≤ d.next → d.next ≤ 127 →
    (d.kind = .flicker →
      d.rampIn = 0 ∧ d.rampOut = 0 ∧ d.level ≤ 32767 ∧ 1 ≤ d.half ∧ d.half ≤ 16777215) →
    (d.kind ≠ .flicker → d.half = 0) → (d.kind = .openCircuit → d.level = 0) →
    (d.kind = .harmonic → 2 ≤ d.order ∧ d.order ≤ 50) → (d.kind ≠ .harmonic → d.order = 0) →
    (d.kind = .tone → 1 ≤ d.freq ∧ d.freq ≤ 2147483647) → (d.kind ≠ .tone → d.freq = 0) →
    (d.kind ≠ .harmonic → d.kind ≠ .tone → d.phi = 0) →
    readDescRecord (descRecord d) = some d ∧ descRecord d = descWords d

/-- R39: WRITE_SLOTS writes its whole range or nothing, by the records R39 refuses. -/
def Obligations.WriteSlotsWritesTheWholeRange : Prop :=
  ∀ (tag : Tag) (w : Word) (records : List Word) (s : State), records.length = lo16 w →
    Takes ⟨codeWriteSlots, tag, w :: records⟩ s →
    (¬(hi16 w ≤ 511 ∧ 1 ≤ lo16 w ∧ lo16 w ≤ 30 ∧ hi16 w + lo16 w ≤ 512) →
      exec (.writeSlots tag (w :: records)) s =
        .next (answered ⟨codeWriteSlots, tag, w :: records⟩ .badIndex [] s)) ∧
    (hi16 w ≤ 511 ∧ 1 ≤ lo16 w ∧ lo16 w ≤ 30 ∧ hi16 w + lo16 w ≤ 512 →
      ((∃ r, r ∈ records ∧ SlotRefused r) →
        exec (.writeSlots tag (w :: records)) s =
          .next (answered ⟨codeWriteSlots, tag, w :: records⟩ .badField [] s)) ∧
      ((∀ r, r ∈ records → ¬SlotRefused r) →
        ∃ t, exec (.writeSlots tag (w :: records)) s =
            .next (answered ⟨codeWriteSlots, tag, w :: records⟩ .ok [] t) ∧
          t = { s with ring := t.ring } ∧
          (tableWf 512 s.ring = true →
            ∀ k, (k < hi16 w ∨ hi16 w + lo16 w ≤ k → tableGet t.ring k = tableGet s.ring k) ∧
              (hi16 w ≤ k → k < hi16 w + lo16 w →
                tableGet t.ring k = slotOf (records.getD (k - hi16 w) 0)))))

/-- R43, R44, R45, R76, R13: RUN, STEP, HALT, SET_CYCLE in every scheduler state. -/
def Obligations.SchedulerCommandsFollowTheState : Prop :=
  ∀ (tag : Tag) (w : Word) (s : State),
    (Takes ⟨codeRun, tag, []⟩ s →
      exec (.run tag []) s =
        .next
          (if s.sch.state = .faulted then answered ⟨codeRun, tag, []⟩ .busy [] s
           else
             answered ⟨codeRun, tag, []⟩ .ok [] { s with sch := { s.sch with state := .running } })) ∧
    (Takes ⟨codeStep, tag, []⟩ s →
      exec (.stepSlot tag []) s =
        .next
          (if s.sch.state = .halted then
             answered ⟨codeStep, tag, []⟩ .ok []
               { s with sch := { s.sch with state := .stepping } }
           else answered ⟨codeStep, tag, []⟩ .busy [] s)) ∧
    (Takes ⟨codeHalt, tag, []⟩ s →
      exec (.halt tag []) s =
        .next
          (if s.sch.state = .faulted then answered ⟨codeHalt, tag, []⟩ .busy [] s
           else
             answered ⟨codeHalt, tag, []⟩ .ok []
               { s with
                 sch := { s.sch with state := .halted }
                 cx :=
                   { s.cx with
                     set :=
                       s.cx.set.map
                         (fun c => { c with mark := if c.mark = .none then .halt else c.mark }) } })) ∧
    (Takes ⟨codeSetCycle, tag, [w]⟩ s →
      exec (.setCycle tag [w]) s =
        .next
          (if s.sch.state = .halted then
             answered ⟨codeSetCycle, tag, [w]⟩ .ok [] { s with ant := { s.ant with cycle := lo16 w } }
           else answered ⟨codeSetCycle, tag, [w]⟩ .busy [] s))

/-- R46, R77, R81, R163, R165: ABORT; the CTX_END notices, reason ABORTED, of the contexts it takes out, in an order
that is open (log 6), behind the reports that stood and with the response behind them. -/
def Obligations.AbortTakesEveryContextOut : Prop :=
  ∀ (tag : Tag) (s : State), Takes ⟨codeAbort, tag, []⟩ s →
    (s.sch.state = .faulted →
      exec (.abort tag []) s = .next (answered ⟨codeAbort, tag, []⟩ .busy [] s)) ∧
    (s.sch.state ≠ .faulted →
      ∃ t, exec (.abort tag []) s = .next (answered ⟨codeAbort, tag, []⟩ .ok [] t) ∧
        t.sch = { s.sch with state := .halted } ∧
        t.cx =
          { s.cx with
            set :=
              (s.cx.set.filter
                (fun c =>
                  c.life = .rampOut ∨
                    ((c.life = .rampIn ∨ c.life = .hold) ∧ c.snap.kind ≠ .flicker ∧
                      c.snap.rampOut ≠ 0))).map
                (fun c =>
                  if c.life = .rampOut then { c with mark := .abort }
                  else
                    { c with
                      life := .rampOut, rampStart := c.value, stepCount := 0, mark := .abort }) } ∧
        OutsideContexts s t ∧ t.mku = s.mku ∧
        (∀ f, f ≠ .noticeLost → flagIsSet t.flags f = flagIsSet s.flags f) ∧
        s.rpq.queue <+: t.rpq.queue ∧
        (∀ r, r ∈ t.rpq.queue.drop s.rpq.queue.length → r.notice = true) ∧
        ∃ ns : List Notice, ns.Perm (abortedNotices s) ∧
          t =
            { ns.foldl (fun u n => raise n u) { s with sch := t.sch, cx := t.cx } with
              freeCount := t.freeCount })

/-- R47, R107, R109, R114: CLEAR_FAULT. -/
def Obligations.ClearFaultLeavesTheSafetyStop : Prop :=
  ∀ (tag : Tag) (s : State), Takes ⟨codeClearFault, tag, []⟩ s →
    (s.sch.state ≠ .faulted →
      exec (.clearFault tag []) s =
        .next
          (answered ⟨codeClearFault, tag, []⟩ .ok [] { s with sch := { s.sch with fault := none } })) ∧
    (s.sch.state = .faulted → ¬(s.dsr.link = .up ∧ s.up.link = .up) →
      exec (.clearFault tag []) s =
        .next (answered ⟨codeClearFault, tag, []⟩ .busy [] s)) ∧
    (s.sch.state = .faulted → s.dsr.link = .up → s.up.link = .up →
      ∃ w : PerPhase CwPhase,
        (∀ p,
          (s.par.tripAction = .safe ∧ (s.cw.get p).tripped = true →
            w.get p = { overs := 0, tripped := false, fold := (s.cw.get p).fold }) ∧
          (¬(s.par.tripAction = .safe ∧ (s.cw.get p).tripped = true) → w.get p = s.cw.get p)) ∧
        exec (.clearFault tag []) s =
          .next
            (answered ⟨codeClearFault, tag, []⟩ .ok []
              { s with
                sch := { s.sch with state := .halted, fault := none }
                lmu := { s.lmu with mute := .unmuting, rampStart := s.lmu.factor, rampStep := 0 }
                cw := w }))

/-- R57, R52, R63: ARM by its tests in order, each entry of its chain offered in walk order, the status by the first
skip where none is armed, and a chain of one entry. -/
def Obligations.ArmMakesAContextOrSaysWhyNot : Prop :=
  ∀ (tag : Tag) (w : Word) (s : State), Takes ⟨codeArm, tag, [w]⟩ s →
    (255 < w.toNat →
      exec (.arm tag [w]) s = .next (answered ⟨codeArm, tag, [w]⟩ .badIndex [] s)) ∧
    (w.toNat ≤ 255 → s.sch.state = .faulted →
      exec (.arm tag [w]) s = .next (answered ⟨codeArm, tag, [w]⟩ .busy [] s)) ∧
    (w.toNat ≤ 255 → s.sch.state ≠ .faulted →
      (tableGet s.edt w.toNat = none →
        exec (.arm tag [w]) s = .next (answered ⟨codeArm, tag, [w]⟩ .empty [] s)) ∧
      (∀ i, walk s.edt w.toNat = .empty i →
        exec (.arm tag [w]) s = .next (answered ⟨codeArm, tag, [w]⟩ .empty [] s)) ∧
      (walk s.edt w.toNat = .long →
        exec (.arm tag [w]) s = .next (answered ⟨codeArm, tag, [w]⟩ .badField [] s)) ∧
      (∀ l, walk s.edt w.toNat = .ok l →
        ∃ t armed skipped, t = l.foldl (offered .command) s ∧
          t.cx.set.length = s.cx.set.length + armed ∧ armed + skipped = l.length ∧ l.length ≤ 16 ∧
          exec (.arm tag [w]) s =
            .next
              (answered ⟨codeArm, tag, [w]⟩
                (if 0 < armed then .ok
                 else if (findCtx s.cx.set w.toNat).isSome then .duplicate
                 else .full)
                [word2 armed skipped] t) ∧
          OutsideContexts s t ∧ t.sch = s.sch ∧ t.mku = s.mku ∧ s.cx.set <+: t.cx.set ∧
          ((t.cx.set.drop s.cx.set.length).map (·.index)).Sublist l ∧
          (t.cx.set.length < 8 → ∀ j, j ∈ l → (findCtx t.cx.set j).isSome = true) ∧
          (flagIsSet t.flags .armSkipped = true ↔
            flagIsSet s.flags .armSkipped = true ∨ 0 < skipped)) ∧
      (∀ d, tableGet s.edt w.toNat = some d → linksWith d = false →
        (findCtx s.cx.set w.toNat = none → s.cx.set.length < 8 →
          exec (.arm tag [w]) s =
            .next
              (answered ⟨codeArm, tag, [w]⟩ .ok [0x00010000]
                { s with
                  cx :=
                    { set :=
                        s.cx.set ++
                          [{ index := w.toNat, snap := d
                             activation := (s.cx.activation + 1) % 65536
                             source := .command, firstFrame := false, life := .wait
                             stepCount := 0, bounds := 0, lives := 0
                             value := neutralOf d.kind, rampStart := neutralOf d.kind
                             flickHalf := .high, flickCount := 0, tone := 0, mark := .none }]
                      activation := (s.cx.activation + 1) % 65536 } })) ∧
        (findCtx s.cx.set w.toNat ≠ none →
          exec (.arm tag [w]) s =
            .next
              (answered ⟨codeArm, tag, [w]⟩ .duplicate [0x00000001]
                (raise (.armSkip w.toNat .duplicate .command)
                  { s with flags := flagsWith s.flags .armSkipped }))) ∧
        (findCtx s.cx.set w.toNat = none → 8 ≤ s.cx.set.length →
          exec (.arm tag [w]) s =
            .next
              (answered ⟨codeArm, tag, [w]⟩ .full [0x00000001]
                (raise (.armSkip w.toNat .setFull .command)
                  { s with flags := flagsWith s.flags .armSkipped })))))

/-- R125: SET_MARKER, by the number of the marker and the configuration it carries. -/
def Obligations.SetMarkerReplacesTheConfiguration : Prop :=
  ∀ (tag : Tag) (k w0 w1 : Word) (s : State), Takes ⟨codeSetMarker, tag, [k, w0, w1]⟩ s →
    (3 < k.toNat →
      exec (.setMarker tag [k, w0, w1]) s =
        .next (answered ⟨codeSetMarker, tag, [k, w0, w1]⟩ .badIndex [] s)) ∧
    (k.toNat ≤ 3 →
      (6 < field w0 24 8 →
        exec (.setMarker tag [k, w0, w1]) s =
          .next (answered ⟨codeSetMarker, tag, [k, w0, w1]⟩ .badField [] s)) ∧
      (field w0 24 8 = 2 ∨ field w0 24 8 = 3 → 255 < hi16 w1 →
        exec (.setMarker tag [k, w0, w1]) s =
          .next (answered ⟨codeSetMarker, tag, [k, w0, w1]⟩ .badIndex [] s)) ∧
      (1 ≤ field w0 24 8 → field w0 24 8 ≤ 6 →
        ¬((field w0 24 8 = 2 ∨ field w0 24 8 = 3) ∧ 255 < hi16 w1) →
        (field w0 16 8 = 0 ∨ 7 < field w0 16 8 ∨ 1 < field w0 8 8 ∨ lo16 w1 = 0 ∨ 255 < lo16 w1 ∨
          (field w0 24 8 = 4 ∧ (hi16 w1 = 0 ∨ 7 < hi16 w1))) →
        exec (.setMarker tag [k, w0, w1]) s =
          .next (answered ⟨codeSetMarker, tag, [k, w0, w1]⟩ .badField [] s)) ∧
      (field w0 24 8 = 0 →
        exec (.setMarker tag [k, w0, w1]) s =
          .next
            (answered ⟨codeSetMarker, tag, [k, w0, w1]⟩ .ok []
              { s with
                mku :=
                  { s.mku with
                    markers :=
                      s.mku.markers.set k.toNat
                        { state := .disabled, cond := .none, actions := 0, mode := .once
                          width := 0 } } })) ∧
      (∀ cond, condCode cond = field w0 24 8 → 1 ≤ field w0 24 8 →
        (field w0 24 8 ≤ 4 → condArgument cond = hi16 w1) →
        (field w0 24 8 = 4 → 1 ≤ hi16 w1 ∧ hi16 w1 ≤ 7) →
        (field w0 24 8 = 2 ∨ field w0 24 8 = 3 → hi16 w1 ≤ 255) →
        1 ≤ field w0 16 8 → field w0 16 8 ≤ 7 → field w0 8 8 ≤ 1 → 1 ≤ lo16 w1 →
        lo16 w1 ≤ 255 →
        exec (.setMarker tag [k, w0, w1]) s =
          .next
            (answered ⟨codeSetMarker, tag, [k, w0, w1]⟩ .ok []
              { s with
                mku :=
                  { s.mku with
                    markers :=
                      s.mku.markers.set k.toNat
                        { state := .armed, cond := cond
                          actions := BitVec.ofNat 3 (field w0 16 8)
                          mode := if field w0 8 8 = 0 then .once else .every
                          width := lo16 w1 } } })))

end
end

