-- ==== Sys2Proof/Laws/Firing.lean ====
section
/-! SUPPORT. Laws of firing and arming: what a firing, a notice among firings, the offer of a walked entry, the
start of a life and a frame of the mute factor are, in the words of the statements. -/

namespace Sys2Proof.Machine

open Sys2Proof.Safety

/-! ### Firing (R121 to R123) -/

/-- A notice and the Marker Unit do not meet. -/
theorem raise_withMku (n : Notice) (m : Mku) (s : State) :
    (raise n s).withMku m = raise n (s.withMku m) := by
  by_cases h1 : maskEnables s.par.notifyMask n = true <;> by_cases h2 : noticeFits s.rpq.queue = true <;>
    simp only [raise, State.withMku, State.withRpq, State.withFlags, setFlag, h1, h2, if_true, if_false,
      Bool.false_eq_true]

theorem raise_mku (n : Notice) (s : State) : (raise n s).mku = s.mku := by
  unfold raise; split
  · split <;> rfl
  · rfl

/-- A STOP is a HALT in RUNNING and STEPPING. -/
theorem stopNow_eq (s : State) :
    stopNow s =
      if s.sch.state = .running ∨ s.sch.state = .stepping then
        { s with
          sch := { s.sch with state := .halted }
          cx :=
            { s.cx with
              set := s.cx.set.map (fun c => if c.mark = .none then { c with mark := .halt } else c) } }
      else s := by
  unfold stopNow
  cases h : s.sch.state <;> simp <;> rfl

theorem afterFiring_eq (m : Marker) :
    afterFiring m = { m with state := if m.mode = .once then .spent else m.state } := by
  unfold afterFiring
  obtain ⟨st, cond, a, mode, w⟩ := m
  cases mode <;> rfl

/-- All that the firing of a marker does. -/
theorem fire_eq_firedOne (k : Nat) (s : State) : fire k s = firedOne k s := by
  unfold fire firedOne
  simp only [stopNow_eq, afterFiring_eq, raiseIf, requestPulse, State.withMku, angleNow]
  by_cases h0 : (s.mku.markers.get k).actions.getLsbD 0 = true <;>
    by_cases h1 : (s.mku.markers.get k).actions.getLsbD 1 = true <;>
    by_cases h2 : (s.mku.markers.get k).actions.getLsbD 2 = true <;>
    by_cases hs : s.sch.state = .running ∨ s.sch.state = .stepping <;>
    simp only [h0, h1, h2, hs, if_true, if_false, raise_mku, and_true, and_false, Bool.false_eq_true] <;>
    first
      | rfl
      | (rw [show ∀ (t : State) (m : Mku), { t with mku := m } = t.withMku m from fun _ _ => rfl,
          raise_withMku]; rfl)

/-- All that an offer of a condition to one marker does. -/
theorem fireIfHit_eq (cond : MarkerCond) (hit : MarkerCond → Bool) (h : ∀ c, hit c = (c == cond)) (k : Nat)
    (s : State) :
    fireIfHit hit k s =
      if (s.mku.markers.get k).state = .armed ∧ (s.mku.markers.get k).cond = cond then firedOne k s else s := by
  unfold fireIfHit markerHit
  simp only [h, fire_eq_firedOne, Bool.and_eq_true, beq_iff_eq]

/-- All that one occurrence of a condition does. -/
theorem fireMarkers_eq_fired (cond : MarkerCond) (hit : MarkerCond → Bool) (h : ∀ c, hit c = (c == cond))
    (s : State) : fireMarkers hit s = fired cond s := by
  unfold fireMarkers fired
  simp only [fireIfHit_eq cond hit h]
  rfl

/-- All that an occurrence with a notice at a place among its firings does. -/
theorem fireWithNotice_eq_firedAround (cond : MarkerCond) (hit : MarkerCond → Bool)
    (h : ∀ c, hit c = (c == cond)) (place : Nat) (n : Notice) (s : State) :
    fireWithNotice hit place n s = firedAround place n cond s := by
  have h0 : ∀ (k : Nat) (u : State), raiseIf (place == k) n u = if k = place then raise n u else u := by
    intro k u
    by_cases hk : place = k
    · simp only [raiseIf, hk, BEq.rfl, if_true]
    · simp only [raiseIf, beq_iff_eq, hk, Ne.symm hk, if_false]
  unfold fireWithNotice firedAround
  simp only [fireIfHit_eq cond hit h, h0, eq_comm (a := place) (b := 4)]
  rfl

/-- All that a notice and the firing of its occurrence can do. -/
theorem noticeAndFire_spec (c : Bool) (n : Notice) (cond : MarkerCond) (hit : MarkerCond → Bool)
    (h : ∀ c, hit c = (c == cond)) (s : State) : NoticeWithFiring c n cond s (noticeAndFire c n hit s) := by
  unfold NoticeWithFiring noticeAndFire
  cases c with
  | false => exact ⟨s.freeCount, .inl rfl, fireMarkers_eq_fired cond hit h s⟩
  | true =>
    by_cases ha : anyMarkerHit hit s = true
    · refine ⟨s.freeCount + 1, .inr rfl, (choose 5 s).1, Nat.le_of_lt_succ (Nat.mod_lt _ (by decide)), ?_⟩
      rw [if_pos (by simp only [ha, Bool.and_self])]
      exact fireWithNotice_eq_firedAround cond hit h _ _ _
    · refine ⟨s.freeCount, .inl rfl, 0, by decide, ?_⟩
      rw [if_neg (by simp only [ha, Bool.and_false, Bool.false_eq_true, not_false_eq_true])]
      rw [← fireWithNotice_eq_firedAround cond hit h]
      rfl

/-! ### Offering a walked entry (R52) -/

theorem neutral_eq (k : Kind) : neutral k = neutralOf k := by cases k <;> rfl

/-- The context that an arming makes. -/
theorem newContext_eq_joined (i : Nat) (d : Desc) (activation : Nat) (source : ArmSource) :
    newContext i d activation source = joined i d source activation := by
  unfold newContext joined
  rw [neutral_eq]

/-- All that offering one walked entry does to the state. -/
theorem offerEntry_eq_offered (source : ArmSource) (r : State × ArmCount) (i : Nat) :
    (offerEntry source r i).1 = offered source r.1 i := by
  unfold offerEntry offered skipReason skipEntry armEntry
  by_cases h1 : (findCtx r.1.cx.set i).isSome = true
  · simp only [h1, if_true]; rfl
  · by_cases h2 : 8 ≤ r.1.cx.set.length
    · simp only [h1, if_false, Config.contextCapacity, h2, if_true, Bool.false_eq_true]; rfl
    · simp only [h1, if_false, Config.contextCapacity, h2, Bool.false_eq_true,
        newContext_eq_joined]
      cases tableGet r.1.edt i <;> rfl

/-- All that offering the entries of a walk does to the state. -/
theorem offerEntries_eq (source : ArmSource) (l : List Nat) (s : State) :
    (offerEntries source l s).1 = l.foldl (offered source) s := by
  have h : ∀ (l : List Nat) (r : State × ArmCount),
      (l.foldl (offerEntry source) r).1 = l.foldl (offered source) r.1 := by
    intro l
    induction l with
    | nil => intro r; rfl
    | cons i l ih => intro r; rw [List.foldl_cons, ih, offerEntry_eq_offered, List.foldl_cons]
  exact h l _

/-! ### Starts of lives and the mute factor (R67, R105) -/

/-- All that the start of a life does to its context. -/
theorem startLife_eq_started (c : Ctx) : startLife c = started c := by
  unfold startLife started
  rw [neutral_eq]
  rfl

/-- All that a context in WAIT makes of a frame, its boundary count brought up to date. -/
theorem waitTests_fst (f : FrameInfo) (c : Ctx) (h : c.life = .wait) :
    (waitTests f c).1 = waited c.bounds (crosses f c.snap.alpha) c := by
  unfold waitTests waited
  by_cases h1 : crosses f c.snap.alpha = true
  · simp only [h1, if_true, true_or, startLife_eq_started]
  · by_cases h2 : 2 ≤ c.bounds
    · simp only [h1, h2, if_true, if_false, or_true, startLife_eq_started, Bool.false_eq_true]
    · simp only [h1, h2, if_false, or_self, neutral_eq, Bool.false_eq_true, ← h]

/-- All that a presented frame does to mute state, ramp and M. -/
theorem muteFrame_eq_muteOver (m : Lmu) : muteFrame m = muteOver m := by
  cases h : m.mute <;> simp only [muteFrame, muteOver, h, muteRampStep, Config.muteFrames, Config.unity] <;> rfl

end Sys2Proof.Machine
end

