-- ==== Sys2Proof/Laws/State.lean ====
section
/-! SUPPORT. One lemma for each part of the state and each setter: what the setter stores, and that it
leaves every other part alone. -/

namespace Sys2Proof.Machine

/-! ### Angle Tracker -/

@[simp] theorem State.withAnt_ant (s : State) (x : Ant) : (s.withAnt x).ant = x := rfl
@[simp] theorem State.withAnt_edt (s : State) (x : Ant) : (s.withAnt x).edt = s.edt := rfl
@[simp] theorem State.withAnt_ring (s : State) (x : Ant) : (s.withAnt x).ring = s.ring := rfl
@[simp] theorem State.withAnt_sch (s : State) (x : Ant) : (s.withAnt x).sch = s.sch := rfl
@[simp] theorem State.withAnt_cx (s : State) (x : Ant) : (s.withAnt x).cx = s.cx := rfl
@[simp] theorem State.withAnt_sau (s : State) (x : Ant) : (s.withAnt x).sau = s.sau := rfl
@[simp] theorem State.withAnt_lmu (s : State) (x : Ant) : (s.withAnt x).lmu = s.lmu := rfl
@[simp] theorem State.withAnt_cw (s : State) (x : Ant) : (s.withAnt x).cw = s.cw := rfl
@[simp] theorem State.withAnt_mku (s : State) (x : Ant) : (s.withAnt x).mku = s.mku := rfl
@[simp] theorem State.withAnt_dsr (s : State) (x : Ant) : (s.withAnt x).dsr = s.dsr := rfl
@[simp] theorem State.withAnt_up (s : State) (x : Ant) : (s.withAnt x).up = s.up := rfl
@[simp] theorem State.withAnt_cmx (s : State) (x : Ant) : (s.withAnt x).cmx = s.cmx := rfl
@[simp] theorem State.withAnt_rpq (s : State) (x : Ant) : (s.withAnt x).rpq = s.rpq := rfl
@[simp] theorem State.withAnt_par (s : State) (x : Ant) : (s.withAnt x).par = s.par := rfl
@[simp] theorem State.withAnt_flags (s : State) (x : Ant) : (s.withAnt x).flags = s.flags := rfl
@[simp] theorem State.withAnt_freeCount (s : State) (x : Ant) : (s.withAnt x).freeCount = s.freeCount := rfl
@[simp] theorem State.withAnt_pending (s : State) (x : Ant) : (s.withAnt x).pending = s.pending := rfl
@[simp] theorem State.withAnt_withAnt (s : State) (x y : Ant) :
    (s.withAnt x).withAnt y = s.withAnt y := rfl
@[simp] theorem State.withAnt_self (s : State) : s.withAnt s.ant = s := rfl

/-! ### Descriptor Table -/

@[simp] theorem State.withEdt_ant (s : State) (x : List (Nat × Desc)) : (s.withEdt x).ant = s.ant := rfl
@[simp] theorem State.withEdt_edt (s : State) (x : List (Nat × Desc)) : (s.withEdt x).edt = x := rfl
@[simp] theorem State.withEdt_ring (s : State) (x : List (Nat × Desc)) : (s.withEdt x).ring = s.ring := rfl
@[simp] theorem State.withEdt_sch (s : State) (x : List (Nat × Desc)) : (s.withEdt x).sch = s.sch := rfl
@[simp] theorem State.withEdt_cx (s : State) (x : List (Nat × Desc)) : (s.withEdt x).cx = s.cx := rfl
@[simp] theorem State.withEdt_sau (s : State) (x : List (Nat × Desc)) : (s.withEdt x).sau = s.sau := rfl
@[simp] theorem State.withEdt_lmu (s : State) (x : List (Nat × Desc)) : (s.withEdt x).lmu = s.lmu := rfl
@[simp] theorem State.withEdt_cw (s : State) (x : List (Nat × Desc)) : (s.withEdt x).cw = s.cw := rfl
@[simp] theorem State.withEdt_mku (s : State) (x : List (Nat × Desc)) : (s.withEdt x).mku = s.mku := rfl
@[simp] theorem State.withEdt_dsr (s : State) (x : List (Nat × Desc)) : (s.withEdt x).dsr = s.dsr := rfl
@[simp] theorem State.withEdt_up (s : State) (x : List (Nat × Desc)) : (s.withEdt x).up = s.up := rfl
@[simp] theorem State.withEdt_cmx (s : State) (x : List (Nat × Desc)) : (s.withEdt x).cmx = s.cmx := rfl
@[simp] theorem State.withEdt_rpq (s : State) (x : List (Nat × Desc)) : (s.withEdt x).rpq = s.rpq := rfl
@[simp] theorem State.withEdt_par (s : State) (x : List (Nat × Desc)) : (s.withEdt x).par = s.par := rfl
@[simp] theorem State.withEdt_flags (s : State) (x : List (Nat × Desc)) : (s.withEdt x).flags = s.flags := rfl
@[simp] theorem State.withEdt_freeCount (s : State) (x : List (Nat × Desc)) : (s.withEdt x).freeCount = s.freeCount := rfl
@[simp] theorem State.withEdt_pending (s : State) (x : List (Nat × Desc)) : (s.withEdt x).pending = s.pending := rfl
@[simp] theorem State.withEdt_withEdt (s : State) (x y : List (Nat × Desc)) :
    (s.withEdt x).withEdt y = s.withEdt y := rfl
@[simp] theorem State.withEdt_self (s : State) : s.withEdt s.edt = s := rfl

/-! ### Cycle Ring -/

@[simp] theorem State.withRing_ant (s : State) (x : List (Nat × Slot)) : (s.withRing x).ant = s.ant := rfl
@[simp] theorem State.withRing_edt (s : State) (x : List (Nat × Slot)) : (s.withRing x).edt = s.edt := rfl
@[simp] theorem State.withRing_ring (s : State) (x : List (Nat × Slot)) : (s.withRing x).ring = x := rfl
@[simp] theorem State.withRing_sch (s : State) (x : List (Nat × Slot)) : (s.withRing x).sch = s.sch := rfl
@[simp] theorem State.withRing_cx (s : State) (x : List (Nat × Slot)) : (s.withRing x).cx = s.cx := rfl
@[simp] theorem State.withRing_sau (s : State) (x : List (Nat × Slot)) : (s.withRing x).sau = s.sau := rfl
@[simp] theorem State.withRing_lmu (s : State) (x : List (Nat × Slot)) : (s.withRing x).lmu = s.lmu := rfl
@[simp] theorem State.withRing_cw (s : State) (x : List (Nat × Slot)) : (s.withRing x).cw = s.cw := rfl
@[simp] theorem State.withRing_mku (s : State) (x : List (Nat × Slot)) : (s.withRing x).mku = s.mku := rfl
@[simp] theorem State.withRing_dsr (s : State) (x : List (Nat × Slot)) : (s.withRing x).dsr = s.dsr := rfl
@[simp] theorem State.withRing_up (s : State) (x : List (Nat × Slot)) : (s.withRing x).up = s.up := rfl
@[simp] theorem State.withRing_cmx (s : State) (x : List (Nat × Slot)) : (s.withRing x).cmx = s.cmx := rfl
@[simp] theorem State.withRing_rpq (s : State) (x : List (Nat × Slot)) : (s.withRing x).rpq = s.rpq := rfl
@[simp] theorem State.withRing_par (s : State) (x : List (Nat × Slot)) : (s.withRing x).par = s.par := rfl
@[simp] theorem State.withRing_flags (s : State) (x : List (Nat × Slot)) : (s.withRing x).flags = s.flags := rfl
@[simp] theorem State.withRing_freeCount (s : State) (x : List (Nat × Slot)) : (s.withRing x).freeCount = s.freeCount := rfl
@[simp] theorem State.withRing_pending (s : State) (x : List (Nat × Slot)) : (s.withRing x).pending = s.pending := rfl
@[simp] theorem State.withRing_withRing (s : State) (x y : List (Nat × Slot)) :
    (s.withRing x).withRing y = s.withRing y := rfl
@[simp] theorem State.withRing_self (s : State) : s.withRing s.ring = s := rfl

/-! ### Scheduler -/

@[simp] theorem State.withSch_ant (s : State) (x : Sch) : (s.withSch x).ant = s.ant := rfl
@[simp] theorem State.withSch_edt (s : State) (x : Sch) : (s.withSch x).edt = s.edt := rfl
@[simp] theorem State.withSch_ring (s : State) (x : Sch) : (s.withSch x).ring = s.ring := rfl
@[simp] theorem State.withSch_sch (s : State) (x : Sch) : (s.withSch x).sch = x := rfl
@[simp] theorem State.withSch_cx (s : State) (x : Sch) : (s.withSch x).cx = s.cx := rfl
@[simp] theorem State.withSch_sau (s : State) (x : Sch) : (s.withSch x).sau = s.sau := rfl
@[simp] theorem State.withSch_lmu (s : State) (x : Sch) : (s.withSch x).lmu = s.lmu := rfl
@[simp] theorem State.withSch_cw (s : State) (x : Sch) : (s.withSch x).cw = s.cw := rfl
@[simp] theorem State.withSch_mku (s : State) (x : Sch) : (s.withSch x).mku = s.mku := rfl
@[simp] theorem State.withSch_dsr (s : State) (x : Sch) : (s.withSch x).dsr = s.dsr := rfl
@[simp] theorem State.withSch_up (s : State) (x : Sch) : (s.withSch x).up = s.up := rfl
@[simp] theorem State.withSch_cmx (s : State) (x : Sch) : (s.withSch x).cmx = s.cmx := rfl
@[simp] theorem State.withSch_rpq (s : State) (x : Sch) : (s.withSch x).rpq = s.rpq := rfl
@[simp] theorem State.withSch_par (s : State) (x : Sch) : (s.withSch x).par = s.par := rfl
@[simp] theorem State.withSch_flags (s : State) (x : Sch) : (s.withSch x).flags = s.flags := rfl
@[simp] theorem State.withSch_freeCount (s : State) (x : Sch) : (s.withSch x).freeCount = s.freeCount := rfl
@[simp] theorem State.withSch_pending (s : State) (x : Sch) : (s.withSch x).pending = s.pending := rfl
@[simp] theorem State.withSch_withSch (s : State) (x y : Sch) :
    (s.withSch x).withSch y = s.withSch y := rfl
@[simp] theorem State.withSch_self (s : State) : s.withSch s.sch = s := rfl

/-! ### Context Engine -/

@[simp] theorem State.withCx_ant (s : State) (x : Cx) : (s.withCx x).ant = s.ant := rfl
@[simp] theorem State.withCx_edt (s : State) (x : Cx) : (s.withCx x).edt = s.edt := rfl
@[simp] theorem State.withCx_ring (s : State) (x : Cx) : (s.withCx x).ring = s.ring := rfl
@[simp] theorem State.withCx_sch (s : State) (x : Cx) : (s.withCx x).sch = s.sch := rfl
@[simp] theorem State.withCx_cx (s : State) (x : Cx) : (s.withCx x).cx = x := rfl
@[simp] theorem State.withCx_sau (s : State) (x : Cx) : (s.withCx x).sau = s.sau := rfl
@[simp] theorem State.withCx_lmu (s : State) (x : Cx) : (s.withCx x).lmu = s.lmu := rfl
@[simp] theorem State.withCx_cw (s : State) (x : Cx) : (s.withCx x).cw = s.cw := rfl
@[simp] theorem State.withCx_mku (s : State) (x : Cx) : (s.withCx x).mku = s.mku := rfl
@[simp] theorem State.withCx_dsr (s : State) (x : Cx) : (s.withCx x).dsr = s.dsr := rfl
@[simp] theorem State.withCx_up (s : State) (x : Cx) : (s.withCx x).up = s.up := rfl
@[simp] theorem State.withCx_cmx (s : State) (x : Cx) : (s.withCx x).cmx = s.cmx := rfl
@[simp] theorem State.withCx_rpq (s : State) (x : Cx) : (s.withCx x).rpq = s.rpq := rfl
@[simp] theorem State.withCx_par (s : State) (x : Cx) : (s.withCx x).par = s.par := rfl
@[simp] theorem State.withCx_flags (s : State) (x : Cx) : (s.withCx x).flags = s.flags := rfl
@[simp] theorem State.withCx_freeCount (s : State) (x : Cx) : (s.withCx x).freeCount = s.freeCount := rfl
@[simp] theorem State.withCx_pending (s : State) (x : Cx) : (s.withCx x).pending = s.pending := rfl
@[simp] theorem State.withCx_withCx (s : State) (x y : Cx) :
    (s.withCx x).withCx y = s.withCx y := rfl
@[simp] theorem State.withCx_self (s : State) : s.withCx s.cx = s := rfl

/-! ### Sample Arithmetic Unit -/

@[simp] theorem State.withSau_ant (s : State) (x : Sau) : (s.withSau x).ant = s.ant := rfl
@[simp] theorem State.withSau_edt (s : State) (x : Sau) : (s.withSau x).edt = s.edt := rfl
@[simp] theorem State.withSau_ring (s : State) (x : Sau) : (s.withSau x).ring = s.ring := rfl
@[simp] theorem State.withSau_sch (s : State) (x : Sau) : (s.withSau x).sch = s.sch := rfl
@[simp] theorem State.withSau_cx (s : State) (x : Sau) : (s.withSau x).cx = s.cx := rfl
@[simp] theorem State.withSau_sau (s : State) (x : Sau) : (s.withSau x).sau = x := rfl
@[simp] theorem State.withSau_lmu (s : State) (x : Sau) : (s.withSau x).lmu = s.lmu := rfl
@[simp] theorem State.withSau_cw (s : State) (x : Sau) : (s.withSau x).cw = s.cw := rfl
@[simp] theorem State.withSau_mku (s : State) (x : Sau) : (s.withSau x).mku = s.mku := rfl
@[simp] theorem State.withSau_dsr (s : State) (x : Sau) : (s.withSau x).dsr = s.dsr := rfl
@[simp] theorem State.withSau_up (s : State) (x : Sau) : (s.withSau x).up = s.up := rfl
@[simp] theorem State.withSau_cmx (s : State) (x : Sau) : (s.withSau x).cmx = s.cmx := rfl
@[simp] theorem State.withSau_rpq (s : State) (x : Sau) : (s.withSau x).rpq = s.rpq := rfl
@[simp] theorem State.withSau_par (s : State) (x : Sau) : (s.withSau x).par = s.par := rfl
@[simp] theorem State.withSau_flags (s : State) (x : Sau) : (s.withSau x).flags = s.flags := rfl
@[simp] theorem State.withSau_freeCount (s : State) (x : Sau) : (s.withSau x).freeCount = s.freeCount := rfl
@[simp] theorem State.withSau_pending (s : State) (x : Sau) : (s.withSau x).pending = s.pending := rfl
@[simp] theorem State.withSau_withSau (s : State) (x y : Sau) :
    (s.withSau x).withSau y = s.withSau y := rfl
@[simp] theorem State.withSau_self (s : State) : s.withSau s.sau = s := rfl

/-! ### Limit and Mute Unit -/

@[simp] theorem State.withLmu_ant (s : State) (x : Lmu) : (s.withLmu x).ant = s.ant := rfl
@[simp] theorem State.withLmu_edt (s : State) (x : Lmu) : (s.withLmu x).edt = s.edt := rfl
@[simp] theorem State.withLmu_ring (s : State) (x : Lmu) : (s.withLmu x).ring = s.ring := rfl
@[simp] theorem State.withLmu_sch (s : State) (x : Lmu) : (s.withLmu x).sch = s.sch := rfl
@[simp] theorem State.withLmu_cx (s : State) (x : Lmu) : (s.withLmu x).cx = s.cx := rfl
@[simp] theorem State.withLmu_sau (s : State) (x : Lmu) : (s.withLmu x).sau = s.sau := rfl
@[simp] theorem State.withLmu_lmu (s : State) (x : Lmu) : (s.withLmu x).lmu = x := rfl
@[simp] theorem State.withLmu_cw (s : State) (x : Lmu) : (s.withLmu x).cw = s.cw := rfl
@[simp] theorem State.withLmu_mku (s : State) (x : Lmu) : (s.withLmu x).mku = s.mku := rfl
@[simp] theorem State.withLmu_dsr (s : State) (x : Lmu) : (s.withLmu x).dsr = s.dsr := rfl
@[simp] theorem State.withLmu_up (s : State) (x : Lmu) : (s.withLmu x).up = s.up := rfl
@[simp] theorem State.withLmu_cmx (s : State) (x : Lmu) : (s.withLmu x).cmx = s.cmx := rfl
@[simp] theorem State.withLmu_rpq (s : State) (x : Lmu) : (s.withLmu x).rpq = s.rpq := rfl
@[simp] theorem State.withLmu_par (s : State) (x : Lmu) : (s.withLmu x).par = s.par := rfl
@[simp] theorem State.withLmu_flags (s : State) (x : Lmu) : (s.withLmu x).flags = s.flags := rfl
@[simp] theorem State.withLmu_freeCount (s : State) (x : Lmu) : (s.withLmu x).freeCount = s.freeCount := rfl
@[simp] theorem State.withLmu_pending (s : State) (x : Lmu) : (s.withLmu x).pending = s.pending := rfl
@[simp] theorem State.withLmu_withLmu (s : State) (x y : Lmu) :
    (s.withLmu x).withLmu y = s.withLmu y := rfl
@[simp] theorem State.withLmu_self (s : State) : s.withLmu s.lmu = s := rfl

/-! ### Current Watch -/

@[simp] theorem State.withCw_ant (s : State) (x : PerPhase CwPhase) : (s.withCw x).ant = s.ant := rfl
@[simp] theorem State.withCw_edt (s : State) (x : PerPhase CwPhase) : (s.withCw x).edt = s.edt := rfl
@[simp] theorem State.withCw_ring (s : State) (x : PerPhase CwPhase) : (s.withCw x).ring = s.ring := rfl
@[simp] theorem State.withCw_sch (s : State) (x : PerPhase CwPhase) : (s.withCw x).sch = s.sch := rfl
@[simp] theorem State.withCw_cx (s : State) (x : PerPhase CwPhase) : (s.withCw x).cx = s.cx := rfl
@[simp] theorem State.withCw_sau (s : State) (x : PerPhase CwPhase) : (s.withCw x).sau = s.sau := rfl
@[simp] theorem State.withCw_lmu (s : State) (x : PerPhase CwPhase) : (s.withCw x).lmu = s.lmu := rfl
@[simp] theorem State.withCw_cw (s : State) (x : PerPhase CwPhase) : (s.withCw x).cw = x := rfl
@[simp] theorem State.withCw_mku (s : State) (x : PerPhase CwPhase) : (s.withCw x).mku = s.mku := rfl
@[simp] theorem State.withCw_dsr (s : State) (x : PerPhase CwPhase) : (s.withCw x).dsr = s.dsr := rfl
@[simp] theorem State.withCw_up (s : State) (x : PerPhase CwPhase) : (s.withCw x).up = s.up := rfl
@[simp] theorem State.withCw_cmx (s : State) (x : PerPhase CwPhase) : (s.withCw x).cmx = s.cmx := rfl
@[simp] theorem State.withCw_rpq (s : State) (x : PerPhase CwPhase) : (s.withCw x).rpq = s.rpq := rfl
@[simp] theorem State.withCw_par (s : State) (x : PerPhase CwPhase) : (s.withCw x).par = s.par := rfl
@[simp] theorem State.withCw_flags (s : State) (x : PerPhase CwPhase) : (s.withCw x).flags = s.flags := rfl
@[simp] theorem State.withCw_freeCount (s : State) (x : PerPhase CwPhase) : (s.withCw x).freeCount = s.freeCount := rfl
@[simp] theorem State.withCw_pending (s : State) (x : PerPhase CwPhase) : (s.withCw x).pending = s.pending := rfl
@[simp] theorem State.withCw_withCw (s : State) (x y : PerPhase CwPhase) :
    (s.withCw x).withCw y = s.withCw y := rfl
@[simp] theorem State.withCw_self (s : State) : s.withCw s.cw = s := rfl

/-! ### Marker Unit -/

@[simp] theorem State.withMku_ant (s : State) (x : Mku) : (s.withMku x).ant = s.ant := rfl
@[simp] theorem State.withMku_edt (s : State) (x : Mku) : (s.withMku x).edt = s.edt := rfl
@[simp] theorem State.withMku_ring (s : State) (x : Mku) : (s.withMku x).ring = s.ring := rfl
@[simp] theorem State.withMku_sch (s : State) (x : Mku) : (s.withMku x).sch = s.sch := rfl
@[simp] theorem State.withMku_cx (s : State) (x : Mku) : (s.withMku x).cx = s.cx := rfl
@[simp] theorem State.withMku_sau (s : State) (x : Mku) : (s.withMku x).sau = s.sau := rfl
@[simp] theorem State.withMku_lmu (s : State) (x : Mku) : (s.withMku x).lmu = s.lmu := rfl
@[simp] theorem State.withMku_cw (s : State) (x : Mku) : (s.withMku x).cw = s.cw := rfl
@[simp] theorem State.withMku_mku (s : State) (x : Mku) : (s.withMku x).mku = x := rfl
@[simp] theorem State.withMku_dsr (s : State) (x : Mku) : (s.withMku x).dsr = s.dsr := rfl
@[simp] theorem State.withMku_up (s : State) (x : Mku) : (s.withMku x).up = s.up := rfl
@[simp] theorem State.withMku_cmx (s : State) (x : Mku) : (s.withMku x).cmx = s.cmx := rfl
@[simp] theorem State.withMku_rpq (s : State) (x : Mku) : (s.withMku x).rpq = s.rpq := rfl
@[simp] theorem State.withMku_par (s : State) (x : Mku) : (s.withMku x).par = s.par := rfl
@[simp] theorem State.withMku_flags (s : State) (x : Mku) : (s.withMku x).flags = s.flags := rfl
@[simp] theorem State.withMku_freeCount (s : State) (x : Mku) : (s.withMku x).freeCount = s.freeCount := rfl
@[simp] theorem State.withMku_pending (s : State) (x : Mku) : (s.withMku x).pending = s.pending := rfl
@[simp] theorem State.withMku_withMku (s : State) (x y : Mku) :
    (s.withMku x).withMku y = s.withMku y := rfl
@[simp] theorem State.withMku_self (s : State) : s.withMku s.mku = s := rfl

/-! ### Downstream Receiver -/

@[simp] theorem State.withDsr_ant (s : State) (x : Dsr) : (s.withDsr x).ant = s.ant := rfl
@[simp] theorem State.withDsr_edt (s : State) (x : Dsr) : (s.withDsr x).edt = s.edt := rfl
@[simp] theorem State.withDsr_ring (s : State) (x : Dsr) : (s.withDsr x).ring = s.ring := rfl
@[simp] theorem State.withDsr_sch (s : State) (x : Dsr) : (s.withDsr x).sch = s.sch := rfl
@[simp] theorem State.withDsr_cx (s : State) (x : Dsr) : (s.withDsr x).cx = s.cx := rfl
@[simp] theorem State.withDsr_sau (s : State) (x : Dsr) : (s.withDsr x).sau = s.sau := rfl
@[simp] theorem State.withDsr_lmu (s : State) (x : Dsr) : (s.withDsr x).lmu = s.lmu := rfl
@[simp] theorem State.withDsr_cw (s : State) (x : Dsr) : (s.withDsr x).cw = s.cw := rfl
@[simp] theorem State.withDsr_mku (s : State) (x : Dsr) : (s.withDsr x).mku = s.mku := rfl
@[simp] theorem State.withDsr_dsr (s : State) (x : Dsr) : (s.withDsr x).dsr = x := rfl
@[simp] theorem State.withDsr_up (s : State) (x : Dsr) : (s.withDsr x).up = s.up := rfl
@[simp] theorem State.withDsr_cmx (s : State) (x : Dsr) : (s.withDsr x).cmx = s.cmx := rfl
@[simp] theorem State.withDsr_rpq (s : State) (x : Dsr) : (s.withDsr x).rpq = s.rpq := rfl
@[simp] theorem State.withDsr_par (s : State) (x : Dsr) : (s.withDsr x).par = s.par := rfl
@[simp] theorem State.withDsr_flags (s : State) (x : Dsr) : (s.withDsr x).flags = s.flags := rfl
@[simp] theorem State.withDsr_freeCount (s : State) (x : Dsr) : (s.withDsr x).freeCount = s.freeCount := rfl
@[simp] theorem State.withDsr_pending (s : State) (x : Dsr) : (s.withDsr x).pending = s.pending := rfl
@[simp] theorem State.withDsr_withDsr (s : State) (x y : Dsr) :
    (s.withDsr x).withDsr y = s.withDsr y := rfl
@[simp] theorem State.withDsr_self (s : State) : s.withDsr s.dsr = s := rfl

/-! ### upstream merge -/

@[simp] theorem State.withUp_ant (s : State) (x : Up) : (s.withUp x).ant = s.ant := rfl
@[simp] theorem State.withUp_edt (s : State) (x : Up) : (s.withUp x).edt = s.edt := rfl
@[simp] theorem State.withUp_ring (s : State) (x : Up) : (s.withUp x).ring = s.ring := rfl
@[simp] theorem State.withUp_sch (s : State) (x : Up) : (s.withUp x).sch = s.sch := rfl
@[simp] theorem State.withUp_cx (s : State) (x : Up) : (s.withUp x).cx = s.cx := rfl
@[simp] theorem State.withUp_sau (s : State) (x : Up) : (s.withUp x).sau = s.sau := rfl
@[simp] theorem State.withUp_lmu (s : State) (x : Up) : (s.withUp x).lmu = s.lmu := rfl
@[simp] theorem State.withUp_cw (s : State) (x : Up) : (s.withUp x).cw = s.cw := rfl
@[simp] theorem State.withUp_mku (s : State) (x : Up) : (s.withUp x).mku = s.mku := rfl
@[simp] theorem State.withUp_dsr (s : State) (x : Up) : (s.withUp x).dsr = s.dsr := rfl
@[simp] theorem State.withUp_up (s : State) (x : Up) : (s.withUp x).up = x := rfl
@[simp] theorem State.withUp_cmx (s : State) (x : Up) : (s.withUp x).cmx = s.cmx := rfl
@[simp] theorem State.withUp_rpq (s : State) (x : Up) : (s.withUp x).rpq = s.rpq := rfl
@[simp] theorem State.withUp_par (s : State) (x : Up) : (s.withUp x).par = s.par := rfl
@[simp] theorem State.withUp_flags (s : State) (x : Up) : (s.withUp x).flags = s.flags := rfl
@[simp] theorem State.withUp_freeCount (s : State) (x : Up) : (s.withUp x).freeCount = s.freeCount := rfl
@[simp] theorem State.withUp_pending (s : State) (x : Up) : (s.withUp x).pending = s.pending := rfl
@[simp] theorem State.withUp_withUp (s : State) (x y : Up) :
    (s.withUp x).withUp y = s.withUp y := rfl
@[simp] theorem State.withUp_self (s : State) : s.withUp s.up = s := rfl

/-! ### Command Buffer and executor -/

@[simp] theorem State.withCmx_ant (s : State) (x : Cmx) : (s.withCmx x).ant = s.ant := rfl
@[simp] theorem State.withCmx_edt (s : State) (x : Cmx) : (s.withCmx x).edt = s.edt := rfl
@[simp] theorem State.withCmx_ring (s : State) (x : Cmx) : (s.withCmx x).ring = s.ring := rfl
@[simp] theorem State.withCmx_sch (s : State) (x : Cmx) : (s.withCmx x).sch = s.sch := rfl
@[simp] theorem State.withCmx_cx (s : State) (x : Cmx) : (s.withCmx x).cx = s.cx := rfl
@[simp] theorem State.withCmx_sau (s : State) (x : Cmx) : (s.withCmx x).sau = s.sau := rfl
@[simp] theorem State.withCmx_lmu (s : State) (x : Cmx) : (s.withCmx x).lmu = s.lmu := rfl
@[simp] theorem State.withCmx_cw (s : State) (x : Cmx) : (s.withCmx x).cw = s.cw := rfl
@[simp] theorem State.withCmx_mku (s : State) (x : Cmx) : (s.withCmx x).mku = s.mku := rfl
@[simp] theorem State.withCmx_dsr (s : State) (x : Cmx) : (s.withCmx x).dsr = s.dsr := rfl
@[simp] theorem State.withCmx_up (s : State) (x : Cmx) : (s.withCmx x).up = s.up := rfl
@[simp] theorem State.withCmx_cmx (s : State) (x : Cmx) : (s.withCmx x).cmx = x := rfl
@[simp] theorem State.withCmx_rpq (s : State) (x : Cmx) : (s.withCmx x).rpq = s.rpq := rfl
@[simp] theorem State.withCmx_par (s : State) (x : Cmx) : (s.withCmx x).par = s.par := rfl
@[simp] theorem State.withCmx_flags (s : State) (x : Cmx) : (s.withCmx x).flags = s.flags := rfl
@[simp] theorem State.withCmx_freeCount (s : State) (x : Cmx) : (s.withCmx x).freeCount = s.freeCount := rfl
@[simp] theorem State.withCmx_pending (s : State) (x : Cmx) : (s.withCmx x).pending = s.pending := rfl
@[simp] theorem State.withCmx_withCmx (s : State) (x y : Cmx) :
    (s.withCmx x).withCmx y = s.withCmx y := rfl
@[simp] theorem State.withCmx_self (s : State) : s.withCmx s.cmx = s := rfl

/-! ### Report Queue -/

@[simp] theorem State.withRpq_ant (s : State) (x : Rpq) : (s.withRpq x).ant = s.ant := rfl
@[simp] theorem State.withRpq_edt (s : State) (x : Rpq) : (s.withRpq x).edt = s.edt := rfl
@[simp] theorem State.withRpq_ring (s : State) (x : Rpq) : (s.withRpq x).ring = s.ring := rfl
@[simp] theorem State.withRpq_sch (s : State) (x : Rpq) : (s.withRpq x).sch = s.sch := rfl
@[simp] theorem State.withRpq_cx (s : State) (x : Rpq) : (s.withRpq x).cx = s.cx := rfl
@[simp] theorem State.withRpq_sau (s : State) (x : Rpq) : (s.withRpq x).sau = s.sau := rfl
@[simp] theorem State.withRpq_lmu (s : State) (x : Rpq) : (s.withRpq x).lmu = s.lmu := rfl
@[simp] theorem State.withRpq_cw (s : State) (x : Rpq) : (s.withRpq x).cw = s.cw := rfl
@[simp] theorem State.withRpq_mku (s : State) (x : Rpq) : (s.withRpq x).mku = s.mku := rfl
@[simp] theorem State.withRpq_dsr (s : State) (x : Rpq) : (s.withRpq x).dsr = s.dsr := rfl
@[simp] theorem State.withRpq_up (s : State) (x : Rpq) : (s.withRpq x).up = s.up := rfl
@[simp] theorem State.withRpq_cmx (s : State) (x : Rpq) : (s.withRpq x).cmx = s.cmx := rfl
@[simp] theorem State.withRpq_rpq (s : State) (x : Rpq) : (s.withRpq x).rpq = x := rfl
@[simp] theorem State.withRpq_par (s : State) (x : Rpq) : (s.withRpq x).par = s.par := rfl
@[simp] theorem State.withRpq_flags (s : State) (x : Rpq) : (s.withRpq x).flags = s.flags := rfl
@[simp] theorem State.withRpq_freeCount (s : State) (x : Rpq) : (s.withRpq x).freeCount = s.freeCount := rfl
@[simp] theorem State.withRpq_pending (s : State) (x : Rpq) : (s.withRpq x).pending = s.pending := rfl
@[simp] theorem State.withRpq_withRpq (s : State) (x y : Rpq) :
    (s.withRpq x).withRpq y = s.withRpq y := rfl
@[simp] theorem State.withRpq_self (s : State) : s.withRpq s.rpq = s := rfl

/-! ### parameters -/

@[simp] theorem State.withPar_ant (s : State) (x : Params) : (s.withPar x).ant = s.ant := rfl
@[simp] theorem State.withPar_edt (s : State) (x : Params) : (s.withPar x).edt = s.edt := rfl
@[simp] theorem State.withPar_ring (s : State) (x : Params) : (s.withPar x).ring = s.ring := rfl
@[simp] theorem State.withPar_sch (s : State) (x : Params) : (s.withPar x).sch = s.sch := rfl
@[simp] theorem State.withPar_cx (s : State) (x : Params) : (s.withPar x).cx = s.cx := rfl
@[simp] theorem State.withPar_sau (s : State) (x : Params) : (s.withPar x).sau = s.sau := rfl
@[simp] theorem State.withPar_lmu (s : State) (x : Params) : (s.withPar x).lmu = s.lmu := rfl
@[simp] theorem State.withPar_cw (s : State) (x : Params) : (s.withPar x).cw = s.cw := rfl
@[simp] theorem State.withPar_mku (s : State) (x : Params) : (s.withPar x).mku = s.mku := rfl
@[simp] theorem State.withPar_dsr (s : State) (x : Params) : (s.withPar x).dsr = s.dsr := rfl
@[simp] theorem State.withPar_up (s : State) (x : Params) : (s.withPar x).up = s.up := rfl
@[simp] theorem State.withPar_cmx (s : State) (x : Params) : (s.withPar x).cmx = s.cmx := rfl
@[simp] theorem State.withPar_rpq (s : State) (x : Params) : (s.withPar x).rpq = s.rpq := rfl
@[simp] theorem State.withPar_par (s : State) (x : Params) : (s.withPar x).par = x := rfl
@[simp] theorem State.withPar_flags (s : State) (x : Params) : (s.withPar x).flags = s.flags := rfl
@[simp] theorem State.withPar_freeCount (s : State) (x : Params) : (s.withPar x).freeCount = s.freeCount := rfl
@[simp] theorem State.withPar_pending (s : State) (x : Params) : (s.withPar x).pending = s.pending := rfl
@[simp] theorem State.withPar_withPar (s : State) (x y : Params) :
    (s.withPar x).withPar y = s.withPar y := rfl
@[simp] theorem State.withPar_self (s : State) : s.withPar s.par = s := rfl

/-! ### sticky flags -/

@[simp] theorem State.withFlags_ant (s : State) (x : BitVec 23) : (s.withFlags x).ant = s.ant := rfl
@[simp] theorem State.withFlags_edt (s : State) (x : BitVec 23) : (s.withFlags x).edt = s.edt := rfl
@[simp] theorem State.withFlags_ring (s : State) (x : BitVec 23) : (s.withFlags x).ring = s.ring := rfl
@[simp] theorem State.withFlags_sch (s : State) (x : BitVec 23) : (s.withFlags x).sch = s.sch := rfl
@[simp] theorem State.withFlags_cx (s : State) (x : BitVec 23) : (s.withFlags x).cx = s.cx := rfl
@[simp] theorem State.withFlags_sau (s : State) (x : BitVec 23) : (s.withFlags x).sau = s.sau := rfl
@[simp] theorem State.withFlags_lmu (s : State) (x : BitVec 23) : (s.withFlags x).lmu = s.lmu := rfl
@[simp] theorem State.withFlags_cw (s : State) (x : BitVec 23) : (s.withFlags x).cw = s.cw := rfl
@[simp] theorem State.withFlags_mku (s : State) (x : BitVec 23) : (s.withFlags x).mku = s.mku := rfl
@[simp] theorem State.withFlags_dsr (s : State) (x : BitVec 23) : (s.withFlags x).dsr = s.dsr := rfl
@[simp] theorem State.withFlags_up (s : State) (x : BitVec 23) : (s.withFlags x).up = s.up := rfl
@[simp] theorem State.withFlags_cmx (s : State) (x : BitVec 23) : (s.withFlags x).cmx = s.cmx := rfl
@[simp] theorem State.withFlags_rpq (s : State) (x : BitVec 23) : (s.withFlags x).rpq = s.rpq := rfl
@[simp] theorem State.withFlags_par (s : State) (x : BitVec 23) : (s.withFlags x).par = s.par := rfl
@[simp] theorem State.withFlags_flags (s : State) (x : BitVec 23) : (s.withFlags x).flags = x := rfl
@[simp] theorem State.withFlags_freeCount (s : State) (x : BitVec 23) : (s.withFlags x).freeCount = s.freeCount := rfl
@[simp] theorem State.withFlags_pending (s : State) (x : BitVec 23) : (s.withFlags x).pending = s.pending := rfl
@[simp] theorem State.withFlags_withFlags (s : State) (x y : BitVec 23) :
    (s.withFlags x).withFlags y = s.withFlags y := rfl
@[simp] theorem State.withFlags_self (s : State) : s.withFlags s.flags = s := rfl

/-! ### free-choice counter -/

@[simp] theorem State.withFreeCount_ant (s : State) (x : Nat) : (s.withFreeCount x).ant = s.ant := rfl
@[simp] theorem State.withFreeCount_edt (s : State) (x : Nat) : (s.withFreeCount x).edt = s.edt := rfl
@[simp] theorem State.withFreeCount_ring (s : State) (x : Nat) : (s.withFreeCount x).ring = s.ring := rfl
@[simp] theorem State.withFreeCount_sch (s : State) (x : Nat) : (s.withFreeCount x).sch = s.sch := rfl
@[simp] theorem State.withFreeCount_cx (s : State) (x : Nat) : (s.withFreeCount x).cx = s.cx := rfl
@[simp] theorem State.withFreeCount_sau (s : State) (x : Nat) : (s.withFreeCount x).sau = s.sau := rfl
@[simp] theorem State.withFreeCount_lmu (s : State) (x : Nat) : (s.withFreeCount x).lmu = s.lmu := rfl
@[simp] theorem State.withFreeCount_cw (s : State) (x : Nat) : (s.withFreeCount x).cw = s.cw := rfl
@[simp] theorem State.withFreeCount_mku (s : State) (x : Nat) : (s.withFreeCount x).mku = s.mku := rfl
@[simp] theorem State.withFreeCount_dsr (s : State) (x : Nat) : (s.withFreeCount x).dsr = s.dsr := rfl
@[simp] theorem State.withFreeCount_up (s : State) (x : Nat) : (s.withFreeCount x).up = s.up := rfl
@[simp] theorem State.withFreeCount_cmx (s : State) (x : Nat) : (s.withFreeCount x).cmx = s.cmx := rfl
@[simp] theorem State.withFreeCount_rpq (s : State) (x : Nat) : (s.withFreeCount x).rpq = s.rpq := rfl
@[simp] theorem State.withFreeCount_par (s : State) (x : Nat) : (s.withFreeCount x).par = s.par := rfl
@[simp] theorem State.withFreeCount_flags (s : State) (x : Nat) : (s.withFreeCount x).flags = s.flags := rfl
@[simp] theorem State.withFreeCount_freeCount (s : State) (x : Nat) : (s.withFreeCount x).freeCount = x := rfl
@[simp] theorem State.withFreeCount_pending (s : State) (x : Nat) : (s.withFreeCount x).pending = s.pending := rfl
@[simp] theorem State.withFreeCount_withFreeCount (s : State) (x y : Nat) :
    (s.withFreeCount x).withFreeCount y = s.withFreeCount y := rfl
@[simp] theorem State.withFreeCount_self (s : State) : s.withFreeCount s.freeCount = s := rfl

/-! ### queue of waiting commands -/

@[simp] theorem State.withPending_ant (s : State) (x : List Instr) : (s.withPending x).ant = s.ant := rfl
@[simp] theorem State.withPending_edt (s : State) (x : List Instr) : (s.withPending x).edt = s.edt := rfl
@[simp] theorem State.withPending_ring (s : State) (x : List Instr) : (s.withPending x).ring = s.ring := rfl
@[simp] theorem State.withPending_sch (s : State) (x : List Instr) : (s.withPending x).sch = s.sch := rfl
@[simp] theorem State.withPending_cx (s : State) (x : List Instr) : (s.withPending x).cx = s.cx := rfl
@[simp] theorem State.withPending_sau (s : State) (x : List Instr) : (s.withPending x).sau = s.sau := rfl
@[simp] theorem State.withPending_lmu (s : State) (x : List Instr) : (s.withPending x).lmu = s.lmu := rfl
@[simp] theorem State.withPending_cw (s : State) (x : List Instr) : (s.withPending x).cw = s.cw := rfl
@[simp] theorem State.withPending_mku (s : State) (x : List Instr) : (s.withPending x).mku = s.mku := rfl
@[simp] theorem State.withPending_dsr (s : State) (x : List Instr) : (s.withPending x).dsr = s.dsr := rfl
@[simp] theorem State.withPending_up (s : State) (x : List Instr) : (s.withPending x).up = s.up := rfl
@[simp] theorem State.withPending_cmx (s : State) (x : List Instr) : (s.withPending x).cmx = s.cmx := rfl
@[simp] theorem State.withPending_rpq (s : State) (x : List Instr) : (s.withPending x).rpq = s.rpq := rfl
@[simp] theorem State.withPending_par (s : State) (x : List Instr) : (s.withPending x).par = s.par := rfl
@[simp] theorem State.withPending_flags (s : State) (x : List Instr) : (s.withPending x).flags = s.flags := rfl
@[simp] theorem State.withPending_freeCount (s : State) (x : List Instr) : (s.withPending x).freeCount = s.freeCount := rfl
@[simp] theorem State.withPending_pending (s : State) (x : List Instr) : (s.withPending x).pending = x := rfl
@[simp] theorem State.withPending_withPending (s : State) (x y : List Instr) :
    (s.withPending x).withPending y = s.withPending y := rfl
@[simp] theorem State.withPending_self (s : State) : s.withPending s.pending = s := rfl

end Sys2Proof.Machine
end

