-- ==== Sys2Proof/Laws/Touch.lean ====
section
/-! SUPPORT. What the shared operations leave alone, said once for each: three relations between the state
before and after (reports only; events of contexts, markers and Scheduler; a good MEASUREMENT frame or a
safety stop) and the operations that keep them. -/

namespace Sys2Proof.Machine

/-- Reports, sticky flags and the free-choice counter may differ, nothing else. -/
structure ReportsOnly (s t : State) : Prop where
  ant : t.ant = s.ant
  edt : t.edt = s.edt
  ring : t.ring = s.ring
  sch : t.sch = s.sch
  cx : t.cx = s.cx
  sau : t.sau = s.sau
  lmu : t.lmu = s.lmu
  cw : t.cw = s.cw
  mku : t.mku = s.mku
  dsr : t.dsr = s.dsr
  up : t.up = s.up
  cmx : t.cmx = s.cmx
  par : t.par = s.par
  pending : t.pending = s.pending

theorem ReportsOnly.refl (s : State) : ReportsOnly s s := ⟨rfl, rfl, rfl, rfl, rfl, rfl, rfl, rfl, rfl, rfl, rfl, rfl, rfl, rfl⟩

theorem ReportsOnly.trans {s t u : State} (h : ReportsOnly s t) (k : ReportsOnly t u) : ReportsOnly s u :=
  ⟨k.ant.trans h.ant, k.edt.trans h.edt, k.ring.trans h.ring, k.sch.trans h.sch, k.cx.trans h.cx, k.sau.trans h.sau, k.lmu.trans h.lmu, k.cw.trans h.cw, k.mku.trans h.mku, k.dsr.trans h.dsr, k.up.trans h.up, k.cmx.trans h.cmx, k.par.trans h.par, k.pending.trans h.pending⟩

/-- Cycle Ring, Scheduler, contexts, markers, reports, flags and the free-choice counter may differ. -/
structure EventsOnly (s t : State) : Prop where
  ant : t.ant = s.ant
  edt : t.edt = s.edt
  sau : t.sau = s.sau
  lmu : t.lmu = s.lmu
  cw : t.cw = s.cw
  dsr : t.dsr = s.dsr
  up : t.up = s.up
  cmx : t.cmx = s.cmx
  par : t.par = s.par
  pending : t.pending = s.pending

theorem EventsOnly.refl (s : State) : EventsOnly s s := ⟨rfl, rfl, rfl, rfl, rfl, rfl, rfl, rfl, rfl, rfl⟩

theorem EventsOnly.trans {s t u : State} (h : EventsOnly s t) (k : EventsOnly t u) : EventsOnly s u :=
  ⟨k.ant.trans h.ant, k.edt.trans h.edt, k.sau.trans h.sau, k.lmu.trans h.lmu, k.cw.trans h.cw, k.dsr.trans h.dsr, k.up.trans h.up, k.cmx.trans h.cmx, k.par.trans h.par, k.pending.trans h.pending⟩

/-- Scheduler, contexts, mute ramp, Current Watch, markers, reports, flags and the free-choice counter
may differ. -/
structure StopOnly (s t : State) : Prop where
  ant : t.ant = s.ant
  edt : t.edt = s.edt
  ring : t.ring = s.ring
  sau : t.sau = s.sau
  dsr : t.dsr = s.dsr
  up : t.up = s.up
  cmx : t.cmx = s.cmx
  par : t.par = s.par
  pending : t.pending = s.pending

theorem StopOnly.refl (s : State) : StopOnly s s := ⟨rfl, rfl, rfl, rfl, rfl, rfl, rfl, rfl, rfl⟩

theorem StopOnly.trans {s t u : State} (h : StopOnly s t) (k : StopOnly t u) : StopOnly s u :=
  ⟨k.ant.trans h.ant, k.edt.trans h.edt, k.ring.trans h.ring, k.sau.trans h.sau, k.dsr.trans h.dsr, k.up.trans h.up, k.cmx.trans h.cmx, k.par.trans h.par, k.pending.trans h.pending⟩

theorem ReportsOnly.events {s t : State} (h : ReportsOnly s t) : EventsOnly s t :=
  ⟨h.ant, h.edt, h.sau, h.lmu, h.cw, h.dsr, h.up, h.cmx, h.par, h.pending⟩

theorem ReportsOnly.stop {s t : State} (h : ReportsOnly s t) : StopOnly s t :=
  ⟨h.ant, h.edt, h.ring, h.sau, h.dsr, h.up, h.cmx, h.par, h.pending⟩

/-! ### Reports and flags -/

theorem setFlag_only (f : Flag) (s : State) : ReportsOnly s (setFlag f s) := by constructor <;> rfl

theorem setFlagIf_only (c : Bool) (f : Flag) (s : State) : ReportsOnly s (setFlagIf c f s) := by
  unfold setFlagIf; split
  · exact setFlag_only f s
  · exact .refl s

theorem raise_only (n : Notice) (s : State) : ReportsOnly s (raise n s) := by
  unfold raise; split
  · split <;> constructor <;> rfl
  · exact .refl s

theorem raiseIf_only (c : Bool) (n : Notice) (s : State) : ReportsOnly s (raiseIf c n s) := by
  unfold raiseIf; split
  · exact raise_only n s
  · exact .refl s

theorem choose_only (n : Nat) (s : State) : ReportsOnly s (choose n s).2 := by constructor <;> rfl

theorem chooseFirst_only (s : State) : ReportsOnly s (chooseFirst s).2 := by constructor <;> rfl

theorem raiseFree_only (n : Nat) (ns : List Notice) (s : State) : ReportsOnly s (raiseFree n ns s) := by
  induction n generalizing ns s with
  | zero => exact .refl s
  | succ n ih =>
    match ns with
    | [] => exact .refl s
    | [x] => exact (raise_only x s).trans (ih [] _)
    | x :: y :: rest =>
      exact ((choose_only (rest.length + 2) s).trans (raise_only _ _)).trans (ih _ _)

theorem raiseAll_only (ns : List Notice) (s : State) : ReportsOnly s (raiseAll ns s) :=
  raiseFree_only _ _ _

/-! ### Markers, armings, sync events -/

theorem stopNow_only (s : State) : EventsOnly s (stopNow s) := by
  unfold stopNow haltNow; split <;> constructor <;> rfl

theorem requestPulse_only (w : Nat) (s : State) : EventsOnly s (requestPulse w s) := by
  constructor <;> rfl

theorem fire_only (k : Nat) (s : State) : EventsOnly s (fire k s) := by
  unfold fire
  have h1 : EventsOnly s
      (if (s.mku.markers.get k).actions.getLsbD 0 = true then
        requestPulse (s.mku.markers.get k).width s else s) := by
    split
    · exact requestPulse_only _ s
    · exact .refl s
  have h2 : ∀ t : State, EventsOnly t
      (if (s.mku.markers.get k).actions.getLsbD 1 = true then stopNow t else t) := by
    intro t; split
    · exact stopNow_only t
    · exact .refl t
  have h4 : ∀ (t : State) (m : Mku), EventsOnly t (t.withMku m) := by
    intro t m; constructor <;> rfl
  exact ((h1.trans (h2 _)).trans (raiseIf_only _ _ _).events).trans (h4 _ _)

theorem fireIfHit_only (hit : MarkerCond → Bool) (k : Nat) (s : State) :
    EventsOnly s (fireIfHit hit k s) := by
  unfold fireIfHit; split
  · exact fire_only k s
  · exact .refl s

theorem fireMarkers_only (hit : MarkerCond → Bool) (s : State) : EventsOnly s (fireMarkers hit s) :=
  (((fireIfHit_only hit 0 s).trans (fireIfHit_only hit 1 _)).trans (fireIfHit_only hit 2 _)).trans
    (fireIfHit_only hit 3 _)

theorem reportFault_only (c : FaultCause) (s : State) : EventsOnly s (reportFault c s) := by
  unfold reportFault
  refine EventsOnly.trans ?_ (raise_only _ _).events
  constructor <;> rfl

theorem consistencyFault_only (c : FaultCause) (s : State) : EventsOnly s (consistencyFault c s) := by
  unfold consistencyFault
  refine EventsOnly.trans ?_ (reportFault_only _ _)
  constructor <;> rfl

theorem offerEntry_only (source : ArmSource) (r : State × ArmCount) (i : Nat) :
    EventsOnly r.1 (offerEntry source r i).1 := by
  unfold offerEntry skipEntry armEntry
  split
  · exact (setFlag_only _ _).events.trans (raise_only _ _).events
  · split
    · constructor <;> rfl
    · exact .refl _

theorem offerFold_only (source : ArmSource) (l : List Nat) (r : State × ArmCount) :
    EventsOnly r.1 (l.foldl (offerEntry source) r).1 := by
  induction l generalizing r with
  | nil => exact .refl _
  | cons i l ih => exact (offerEntry_only source r i).trans (ih _)

theorem offerEntries_only (source : ArmSource) (l : List Nat) (s : State) :
    EventsOnly s (offerEntries source l s).1 :=
  offerFold_only source l (s, ArmCount.zero)

theorem armChain_only (source : ArmSource) (head : Nat) (s : State) :
    EventsOnly s (armChain source head s) := by
  unfold armChain; split
  · exact offerEntries_only _ _ _
  · exact consistencyFault_only _ _
  · exact consistencyFault_only _ _

theorem armAfterLink_only (head : Nat) (s : State) : EventsOnly s (armAfterLink head s) := by
  unfold armAfterLink; split
  · exact .refl s
  · exact armChain_only _ _ _

theorem syncEvent_only (s : State) : EventsOnly s (syncEvent s) := by
  unfold syncEvent
  refine EventsOnly.trans ?_ (fireMarkers_only _ _)
  unfold syncAtScheduler
  split
  · split
    · exact armChain_only _ _ _
    · exact .refl s
  · split
    · exact armChain_only _ _ _
    · exact .refl s
  · exact (setFlag_only _ _).events
  · exact (setFlag_only _ _).events

theorem takeEdge_only (s : State) : EventsOnly s (takeEdge s) := by
  have h : ∀ m : Mku, EventsOnly s (s.withMku m) := by intro m; constructor <;> rfl
  unfold takeEdge
  dsimp only
  split
  · exact (h _).trans (syncEvent_only _)
  · exact h _

/-! ### The items of a frame -/

theorem limitFlag_only (acts : Bool) (f : Flag) (slew : Bool) (p : Phase) (s : State) :
    ReportsOnly s (limitFlag acts f slew p s) := by
  unfold limitFlag; split
  · exact (setFlag_only _ _).trans (raiseIf_only _ _ _)
  · exact .refl s

theorem limitFlags_only (l : PerPhase Limited) (s : State) : ReportsOnly s (limitFlags l s) := by
  unfold limitFlags limitFlagsOf
  exact ((((((limitFlag_only _ _ _ _ _).trans (limitFlag_only _ _ _ _ _)).trans
    (limitFlag_only _ _ _ _ _)).trans (limitFlag_only _ _ _ _ _)).trans
    (limitFlag_only _ _ _ _ _)).trans (limitFlag_only _ _ _ _ _))

theorem fireWithNotice_only (hit : MarkerCond → Bool) (place : Nat) (n : Notice) (s : State) :
    EventsOnly s (fireWithNotice hit place n s) := by
  have h : ∀ k u, EventsOnly u (fireIfHit hit k (raiseIf (place == k) n u)) :=
    fun k u => (raiseIf_only _ _ _).events.trans (fireIfHit_only hit k _)
  exact ((((h 0 s).trans (h 1 _)).trans (h 2 _)).trans (h 3 _)).trans (raiseIf_only _ _ _).events

theorem noticeAndFire_only (c : Bool) (n : Notice) (hit : MarkerCond → Bool) (s : State) :
    EventsOnly s (noticeAndFire c n hit s) := by
  unfold noticeAndFire
  split
  · exact (choose_only 5 s).events.trans (fireWithNotice_only _ _ _ _)
  · exact (raiseIf_only _ _ _).events.trans (fireMarkers_only _ _)

theorem withCx_only (s : State) (x : Cx) : EventsOnly s (s.withCx x) := by constructor <;> rfl

theorem contextEnds_only (c : Ctx) (aborted : Bool) (s : State) :
    EventsOnly s (contextEnds c aborted s) := by
  unfold contextEnds
  dsimp only
  split
  · exact (withCx_only s _).trans (raiseIf_only _ _ _).events
  · exact (withCx_only s _).trans (noticeAndFire_only _ _ _ _)

theorem lifeStartsNow_only (i : Nat) (late : Bool) (s : State) :
    EventsOnly s (lifeStartsNow i late s) := by
  unfold lifeStartsNow; split
  · exact .refl s
  · exact noticeAndFire_only _ _ _ _

theorem lifeEndsNow_only (i : Nat) (s : State) : EventsOnly s (lifeEndsNow i s).1 := by
  unfold lifeEndsNow; split
  · exact .refl s
  · split
    · exact withCx_only _ _
    · exact contextEnds_only _ _ _

theorem emptyOnce_only (cycle : Nat) (slot : Slot) (s : State) : EventsOnly s (emptyOnce cycle slot s) := by
  unfold emptyOnce; split
  · constructor <;> rfl
  · exact .refl s

theorem endStepIf_only (c : Bool) (s : State) : EventsOnly s (endStepIf c s) := by
  unfold endStepIf; split
  · constructor <;> rfl
  · exact .refl s

theorem takeFrom_only (f : FrameInfo) (n : Nat) (s : State) : EventsOnly s (takeFrom f n s).1 :=
  (withCx_only s _).trans (setFlagIf_only _ _ _).events

theorem startNowOrLater_only (items : List Item) (s : State) :
    EventsOnly s (startNowOrLater items s).1 := by
  unfold startNowOrLater; split
  · split
    · exact (chooseFirst_only s).events.trans (lifeStartsNow_only _ _ _)
    · exact (chooseFirst_only s).events
  · exact .refl s

theorem offerRingEntry_only (f : FrameInfo) (r : State × List Item) (i : Nat) :
    EventsOnly r.1 (offerRingEntry f r i).1 :=
  ((offerEntry_only .ring (r.1, ArmCount.zero) i).trans (takeFrom_only f _ _)).trans
    (startNowOrLater_only _ _)

theorem offerRingFold_only (f : FrameInfo) (l : List Nat) (r : State × List Item) :
    EventsOnly r.1 (l.foldl (offerRingEntry f) r).1 := by
  induction l generalizing r with
  | nil => exact .refl _
  | cons i l ih => exact (offerRingEntry_only f r i).trans (ih _)

theorem armRing_only (f : FrameInfo) (head : Nat) (s : State) : EventsOnly s (armRing f head s).1 := by
  unfold armRing; split
  · exact offerRingFold_only f _ (s, [])
  · exact consistencyFault_only _ _
  · exact consistencyFault_only _ _

theorem ringReadNow_only (f : FrameInfo) (s : State) : EventsOnly s (ringReadNow f s).1 := by
  unfold ringReadNow; split
  · split
    · exact .refl s
    · exact (emptyOnce_only _ _ s).trans (armRing_only _ _ _)
  · exact .refl s

theorem doItem_only (f : FrameInfo) (it : Item) (s : State) : EventsOnly s (doItem f it s).1 := by
  cases it with
  | ringRead => exact ringReadNow_only f s
  | cycleMarks => exact fireMarkers_only _ _
  | lifeStarts i late => exact lifeStartsNow_only _ _ _
  | lifeEnds i => exact lifeEndsNow_only _ _
  | afterLink head => exact armAfterLink_only _ _
  | limits l => exact (limitFlags_only _ _).events
  | clipMarks l => exact fireMarkers_only _ _

theorem runItems_only (f : FrameInfo) (n : Nat) (items : List Item) (s : State) :
    EventsOnly s (runItems f n items s) := by
  induction n generalizing items s with
  | zero => exact .refl s
  | succ n ih =>
    match items with
    | [] => exact .refl s
    | [x] => exact (doItem_only f x s).trans (ih _ _)
    | x :: y :: rest =>
      exact ((choose_only (rest.length + 2) s).events.trans (doItem_only _ _ _)).trans (ih _ _)

/-- The parts of a frame's work that meet in a free order leave the rest of the block alone. -/
theorem runAll_only (f : FrameInfo) (items : List Item) (s : State) :
    EventsOnly s (runAll f items s) := runItems_only _ _ _ _

/-- A property that every item and every free choice keeps is kept by the whole of them, in any order. -/
theorem runItems_keeps (P : State → Prop) (f : FrameInfo)
    (choice : ∀ n s, P s → P (choose n s).2) (item : ∀ it s, P s → P (doItem f it s).1)
    (n : Nat) (items : List Item) (s : State) (h : P s) : P (runItems f n items s) := by
  induction n generalizing items s with
  | zero => exact h
  | succ n ih =>
    match items with
    | [] => exact h
    | [x] => exact ih _ _ (item x s h)
    | x :: y :: rest => exact ih _ _ (item _ _ (choice _ s h))

/-- A property that every raised notice and every free choice keeps is kept by a list of notices. -/
theorem raiseAll_keeps (P : State → Prop) (choice : ∀ n s, P s → P (choose n s).2)
    (notice : ∀ x s, P s → P (raise x s)) (ns : List Notice) (s : State) (h : P s) :
    P (raiseAll ns s) := by
  unfold raiseAll
  generalize ns.length = n
  induction n generalizing ns s with
  | zero => exact h
  | succ n ih =>
    match ns with
    | [] => exact h
    | [x] => exact ih _ _ (notice x s h)
    | x :: y :: rest => exact ih _ _ (notice _ _ (choice _ s h))

/-- A property that every part of a tick and every free choice keeps is kept by the tick's parts. -/
theorem runTick_keeps (P : State → Prop) (choice : ∀ n s, P s → P (choose n s).2)
    (part : ∀ x s, P s → P (doTickPart x s)) (n : Nat) (parts : List TickPart) (s : State)
    (h : P s) : P (runTick n parts s) := by
  induction n generalizing parts s with
  | zero => exact h
  | succ n ih =>
    match parts with
    | [] => exact h
    | [x] => exact ih _ _ (part x s h)
    | x :: y :: rest => exact ih _ _ (part _ _ (choice _ s h))

/-! ### Safety stop and Current Watch -/

theorem fire_stop (k : Nat) (s : State) : StopOnly s (fire k s) := by
  have hr : (fire k s).ring = s.ring := by
    have h1 : ∀ t : State, (stopNow t).ring = t.ring := by
      intro t; unfold stopNow haltNow; split <;> rfl
    unfold fire
    simp only [State.withMku_ring, (raiseIf_only _ _ _).ring]
    split <;> split <;> simp [h1, requestPulse]
  have h := fire_only k s
  exact ⟨h.ant, h.edt, hr, h.sau, h.dsr, h.up, h.cmx, h.par, h.pending⟩

theorem fireMarkers_stop (hit : MarkerCond → Bool) (s : State) : StopOnly s (fireMarkers hit s) := by
  have h : ∀ k t, StopOnly t (fireIfHit hit k t) := by
    intro k t; unfold fireIfHit; split
    · exact fire_stop k t
    · exact .refl t
  exact (((h 0 s).trans (h 1 _)).trans (h 2 _)).trans (h 3 _)

theorem safetyStop_only (c : FaultCause) (s : State) : StopOnly s (safetyStop c s) := by
  unfold safetyStop reportFault startMute; split
  · refine StopOnly.trans ?_ (raise_only _ _).stop
    constructor <;> rfl
  · refine StopOnly.trans ?_ (raise_only _ _).stop
    constructor <;> rfl

theorem setWatch_only (p : Phase) (c : CwPhase) (s : State) : StopOnly s (setWatch p c s) := by
  constructor <;> rfl

theorem foldPhase_only (p : Phase) (above : Bool) (s : State) : StopOnly s (foldPhase p above s) := by
  unfold foldPhase
  dsimp only
  split
  · exact setWatch_only _ _ _
  · split
    · exact (setWatch_only _ _ _).trans (raise_only _ _).stop
    · exact setWatch_only _ _ _

theorem tripPhase_only (p : Phase) (s : State) : StopOnly s (tripPhase p s) := by
  have h : ∀ t : State, StopOnly t (tripActionBegins p t) := by
    intro t; unfold tripActionBegins; split
    · exact .refl t
    · exact foldPhase_only _ _ _
    · exact safetyStop_only _ _
  unfold tripPhase
  dsimp only
  exact (((setWatch_only _ _ _).trans (setFlag_only _ _).stop).trans (raise_only _ _).stop).trans
    ((fireMarkers_stop _ _).trans (h _))

theorem watchPhase_only (p : Phase) (i : Int) (s : State) : StopOnly s (watchPhase p i s) := by
  have h : ∀ (above : Bool) (t : State), StopOnly t (trippedStep p above t) := by
    intro above t; unfold trippedStep; split
    · split
      · exact .refl t
      · exact setWatch_only _ _ _
    · exact foldPhase_only _ _ _
    · exact .refl t
  unfold watchPhase countOver
  dsimp only
  split
  · exact (setWatch_only _ _ _).trans (h _ _)
  · split
    · exact (setWatch_only _ _ _).trans (tripPhase_only _ _)
    · exact setWatch_only _ _ _

/-- A good MEASUREMENT frame reaches what a safety stop reaches, the Current Watch and the markers. -/
theorem watchFrame_only (i : PerPhase Int) (s : State) : StopOnly s (watchFrame i s) :=
  ((watchPhase_only _ _ _).trans (watchPhase_only _ _ _)).trans (watchPhase_only _ _ _)

end Sys2Proof.Machine
end

