-- ==== Sys2Proof/Laws/Links.lean ====
section
/-! SUPPORT. Laws of the receivers: a whole frame that arrives word by word, where a header is expected, is
handled once, as that frame. -/

namespace Sys2Proof.Machine

theorem assemble_last (got : List Word) (w : Word)
    (h : headerLength (got.headD 0) ≤ got.length + 1) :
    assemble (.collecting got) w = (.header, some (got ++ [w])) := by
  simp only [assemble, h, if_true]

theorem assemble_more (got : List Word) (w : Word)
    (h : ¬headerLength (got.headD 0) ≤ got.length + 1) :
    assemble (.collecting got) w = (.collecting (got ++ [w]), none) := by
  simp only [assemble, h, if_false]

theorem headD_append (got : List Word) (w : Word) (h : got ≠ []) :
    (got ++ [w]).headD 0 = got.headD 0 := by
  cases got with
  | nil => exact absurd rfl h
  | cons => rfl

theorem receiveDin_collect (rest got : List Word) (s : State) (hg : got ≠ [])
    (hd : s.dsr.din = .collecting got)
    (hl : got.length + rest.length = headerLength (got.headD 0)) (hr : rest ≠ []) :
    receiveDin rest s = dinFrame (got ++ rest) (s.withDsr { s.dsr with din := .header }) := by
  induction rest generalizing got s with
  | nil => exact absurd rfl hr
  | cons w rest ih =>
    by_cases he : rest = []
    · subst he
      have hle : headerLength (got.headD 0) ≤ got.length + 1 := by simp only [List.length_cons, List.length_nil] at hl; omega
      simp only [receiveDin, dinWord, hd, assemble_last got w hle]
    · have hpos : 0 < rest.length := List.length_pos_iff.2 he
      have hle : ¬headerLength (got.headD 0) ≤ got.length + 1 := by simp only [List.length_cons] at hl; omega
      simp only [receiveDin, dinWord, hd, assemble_more got w hle]
      rw [ih (got ++ [w]) _ (by simp) rfl
        (by rw [headD_append got w hg]; simp only [List.length_cons, List.length_append, List.length_nil] at hl ⊢; omega) he]
      simp

/-- A whole frame arriving on DIN where a header is expected is handled as that frame (R133). -/
theorem receiveDin_whole (ws : List Word) (s : State) (h : oneFrame ws = true)
    (hd : s.dsr.din = .header) : receiveDin ws s = dinFrame ws s := by
  have hs : s.withDsr { s.dsr with din := .header } = s := by rw [← hd]; rfl
  cases ws with
  | nil => simp [oneFrame] at h
  | cons w rest =>
    simp only [oneFrame, Bool.and_eq_true] at h
    obtain ⟨hsync, hlen⟩ := h
    by_cases h2 : headerLength w < 2
    · simp only [h2, if_true, List.length_cons, beq_iff_eq] at hlen
      have hr : rest = [] := List.length_eq_zero_iff.1 (by omega)
      subst hr
      simp only [receiveDin, dinWord, hd, assemble, hsync, h2, if_true, hs]
    · simp only [h2, if_false, List.length_cons, beq_iff_eq] at hlen
      have hr : rest ≠ [] := by rintro rfl; simp at hlen; omega
      simp only [receiveDin, dinWord, hd, assemble, hsync, h2, if_true, if_false]
      rw [receiveDin_collect rest [w] _ (by simp) rfl (by simp; omega) hr]
      simp only [List.singleton_append, State.withDsr_dsr, State.withDsr_withDsr]
      rw [hs]

theorem receiveUin_collect (rest got : List Word) (s : State) (hg : got ≠ [])
    (hd : s.up.uin = .collecting got)
    (hl : got.length + rest.length = headerLength (got.headD 0)) (hr : rest ≠ []) :
    receiveUin rest s = uinFrame (got ++ rest) (s.withUp { s.up with uin := .header }) := by
  induction rest generalizing got s with
  | nil => exact absurd rfl hr
  | cons w rest ih =>
    by_cases he : rest = []
    · subst he
      have hle : headerLength (got.headD 0) ≤ got.length + 1 := by simp only [List.length_cons, List.length_nil] at hl; omega
      simp only [receiveUin, uinWord, hd, assemble_last got w hle]
    · have hpos : 0 < rest.length := List.length_pos_iff.2 he
      have hle : ¬headerLength (got.headD 0) ≤ got.length + 1 := by simp only [List.length_cons] at hl; omega
      simp only [receiveUin, uinWord, hd, assemble_more got w hle]
      rw [ih (got ++ [w]) _ (by simp) rfl
        (by rw [headD_append got w hg]; simp only [List.length_cons, List.length_append, List.length_nil] at hl ⊢; omega) he]
      simp

/-- A whole frame arriving on UIN where a header is expected is handled as that frame (R133). -/
theorem receiveUin_whole (ws : List Word) (s : State) (h : oneFrame ws = true)
    (hd : s.up.uin = .header) : receiveUin ws s = uinFrame ws s := by
  have hs : s.withUp { s.up with uin := .header } = s := by rw [← hd]; rfl
  cases ws with
  | nil => simp [oneFrame] at h
  | cons w rest =>
    simp only [oneFrame, Bool.and_eq_true] at h
    obtain ⟨hsync, hlen⟩ := h
    by_cases h2 : headerLength w < 2
    · simp only [h2, if_true, List.length_cons, beq_iff_eq] at hlen
      have hr : rest = [] := List.length_eq_zero_iff.1 (by omega)
      subst hr
      simp only [receiveUin, uinWord, hd, assemble, hsync, h2, if_true, hs]
    · simp only [h2, if_false, List.length_cons, beq_iff_eq] at hlen
      have hr : rest ≠ [] := by rintro rfl; simp at hlen; omega
      simp only [receiveUin, uinWord, hd, assemble, hsync, h2, if_true, if_false]
      rw [receiveUin_collect rest [w] _ (by simp) rfl (by simp; omega) hr]
      simp only [List.singleton_append, State.withUp_up, State.withUp_withUp]
      rw [hs]

/-- A property that every word received on DIN keeps is kept by any words. -/
theorem receiveDin_keeps (P : State → Prop) (word : ∀ w s, P s → P (dinWord w s)) (ws : List Word)
    (s : State) (h : P s) : P (receiveDin ws s) := by
  induction ws generalizing s with
  | nil => exact h
  | cons w rest ih => exact ih _ (word w s h)

/-- A property that every word received on UIN keeps is kept by any words. -/
theorem receiveUin_keeps (P : State → Prop) (word : ∀ w s, P s → P (uinWord w s)) (ws : List Word)
    (s : State) (h : P s) : P (receiveUin ws s) := by
  induction ws generalizing s with
  | nil => exact h
  | cons w rest ih => exact ih _ (word w s h)

end Sys2Proof.Machine
end

