-- ==== Sys2Proof/Laws/PerInstr.lean ====
section
/-! SUPPORT. What every well-formed command fits: at most 255 words, and a descriptor index of the table. -/

namespace Sys2Proof.Laws.Fits

/-- The words a command carries. -/
def wordsOf (i : Instr) : List Word :=
  match i with
  | .powerOnReset => []
  | .sampleFrame words => words
  | .commandFrame words => words
  | .selfGeneratedFrame => []
  | .downstreamLinkLoss => []
  | .doutFrameSent => []
  | .measurementFrame words => words
  | .stageReportFrame words => words
  | .idleFrame words => words
  | .upstreamLinkLoss => []
  | .upstreamCadenceExpiry => []
  | .uoutFrameSent => []
  | .syncInEdge => []
  | .pulseEnd => []
  | .trip _ => []
  | .lateStart _ => []
  | .gapEnd _ => []
  | .rampInEnd _ => []
  | .rampOutEnd _ => []
  | .flickerHalfChange _ => []
  | .muteRampEnd => []
  | .unmuteRampEnd => []
  | .heldResponsePlaced => []
  | .identify _ payload => payload
  | .getStatus _ payload => payload
  | .takeFlags _ payload => payload
  | .getParam _ payload => payload
  | .setParam _ payload => payload
  | .setPlanBase _ value => [value]
  | .setTripAction _ value => [value]
  | .setFoldFloor _ value => [value]
  | .resetEngine _ payload => payload
  | .writeDesc _ payload => payload
  | .readDesc _ payload => payload
  | .eraseDesc _ payload => payload
  | .writeSlots _ payload => payload
  | .readSlots _ payload => payload
  | .run _ payload => payload
  | .stepSlot _ payload => payload
  | .halt _ payload => payload
  | .abort _ payload => payload
  | .clearFault _ payload => payload
  | .setCycle _ payload => payload
  | .arm _ payload => payload
  | .readContexts _ payload => payload
  | .setMarker _ payload => payload
  | .readMarkers _ payload => payload
  | .undefinedCommandCode _ _ payload => payload
  | .microsecondTick _ => []
  | .failingUinFrame words => words

/-- The descriptor index a command carries, 0 for none. -/
def indexOf (i : Instr) : Nat :=
  match i with
  | .powerOnReset => 0
  | .sampleFrame _ => 0
  | .commandFrame _ => 0
  | .selfGeneratedFrame => 0
  | .downstreamLinkLoss => 0
  | .doutFrameSent => 0
  | .measurementFrame _ => 0
  | .stageReportFrame _ => 0
  | .idleFrame _ => 0
  | .upstreamLinkLoss => 0
  | .upstreamCadenceExpiry => 0
  | .uoutFrameSent => 0
  | .syncInEdge => 0
  | .pulseEnd => 0
  | .trip _ => 0
  | .lateStart index => index
  | .gapEnd index => index
  | .rampInEnd index => index
  | .rampOutEnd index => index
  | .flickerHalfChange index => index
  | .muteRampEnd => 0
  | .unmuteRampEnd => 0
  | .heldResponsePlaced => 0
  | .identify _ _ => 0
  | .getStatus _ _ => 0
  | .takeFlags _ _ => 0
  | .getParam _ _ => 0
  | .setParam _ _ => 0
  | .setPlanBase _ _ => 0
  | .setTripAction _ _ => 0
  | .setFoldFloor _ _ => 0
  | .resetEngine _ _ => 0
  | .writeDesc _ _ => 0
  | .readDesc _ _ => 0
  | .eraseDesc _ _ => 0
  | .writeSlots _ _ => 0
  | .readSlots _ _ => 0
  | .run _ _ => 0
  | .stepSlot _ _ => 0
  | .halt _ _ => 0
  | .abort _ _ => 0
  | .clearFault _ _ => 0
  | .setCycle _ _ => 0
  | .arm _ _ => 0
  | .readContexts _ _ => 0
  | .setMarker _ _ => 0
  | .readMarkers _ _ => 0
  | .undefinedCommandCode _ _ _ => 0
  | .microsecondTick _ => 0
  | .failingUinFrame _ => 0

/-- A well-formed command carries at most the 255 words of a frame (section 11.1) and an index of the
Descriptor Table (R16). -/
def Statement (i : Instr) : Prop :=
  WellFormed i = true → (wordsOf i).length ≤ 255 ∧ indexOf i ≤ 255

theorem oneFrame_length {words : List Word} (h : Machine.oneFrame words = true) :
    words.length ≤ 255 := by
  unfold Machine.oneFrame at h
  split at h
  · cases h
  · rename_i w rest
    have hb : Machine.headerLength w < 256 := Nat.mod_lt _ (by decide)
    split at h
    · have := (Bool.and_eq_true_iff.mp h).2
      rw [beq_iff_eq] at this
      omega
    · have := (Bool.and_eq_true_iff.mp h).2
      rw [beq_iff_eq] at this
      omega

theorem payloadFits_bound {payload : List Word} (h : payloadFits payload = true) :
    payload.length ≤ 255 :=
  Nat.le_trans (of_decide_eq_true h) (by decide)

theorem indexFits_bound {index : Nat} (h : indexFits index = true) : index ≤ 255 :=
  Nat.le_of_lt_succ (of_decide_eq_true h)

theorem powerOnReset : Statement .powerOnReset :=
  fun _ => ⟨Nat.zero_le _, Nat.zero_le _⟩

theorem sampleFrame (words : List Word) : Statement (.sampleFrame words) :=
  fun h => ⟨oneFrame_length (Bool.and_eq_true_iff.mp h).1, Nat.zero_le _⟩

theorem commandFrame (words : List Word) : Statement (.commandFrame words) :=
  fun h => ⟨oneFrame_length (Bool.and_eq_true_iff.mp h).1, Nat.zero_le _⟩

theorem selfGeneratedFrame : Statement .selfGeneratedFrame :=
  fun _ => ⟨Nat.zero_le _, Nat.zero_le _⟩

theorem downstreamLinkLoss : Statement .downstreamLinkLoss :=
  fun _ => ⟨Nat.zero_le _, Nat.zero_le _⟩

theorem doutFrameSent : Statement .doutFrameSent :=
  fun _ => ⟨Nat.zero_le _, Nat.zero_le _⟩

theorem measurementFrame (words : List Word) : Statement (.measurementFrame words) :=
  fun h => ⟨oneFrame_length (Bool.and_eq_true_iff.mp h).1, Nat.zero_le _⟩

theorem stageReportFrame (words : List Word) : Statement (.stageReportFrame words) :=
  fun h => ⟨oneFrame_length (Bool.and_eq_true_iff.mp h).1, Nat.zero_le _⟩

theorem idleFrame (words : List Word) : Statement (.idleFrame words) :=
  fun h => ⟨oneFrame_length (Bool.and_eq_true_iff.mp h).1, Nat.zero_le _⟩

theorem upstreamLinkLoss : Statement .upstreamLinkLoss :=
  fun _ => ⟨Nat.zero_le _, Nat.zero_le _⟩

theorem upstreamCadenceExpiry : Statement .upstreamCadenceExpiry :=
  fun _ => ⟨Nat.zero_le _, Nat.zero_le _⟩

theorem uoutFrameSent : Statement .uoutFrameSent :=
  fun _ => ⟨Nat.zero_le _, Nat.zero_le _⟩

theorem syncInEdge : Statement .syncInEdge :=
  fun _ => ⟨Nat.zero_le _, Nat.zero_le _⟩

theorem pulseEnd : Statement .pulseEnd :=
  fun _ => ⟨Nat.zero_le _, Nat.zero_le _⟩

theorem trip (phase : Phase) : Statement (.trip phase) :=
  fun _ => ⟨Nat.zero_le _, Nat.zero_le _⟩

theorem lateStart (index : Nat) : Statement (.lateStart index) :=
  fun h => ⟨Nat.zero_le _, indexFits_bound h⟩

theorem gapEnd (index : Nat) : Statement (.gapEnd index) :=
  fun h => ⟨Nat.zero_le _, indexFits_bound h⟩

theorem rampInEnd (index : Nat) : Statement (.rampInEnd index) :=
  fun h => ⟨Nat.zero_le _, indexFits_bound h⟩

theorem rampOutEnd (index : Nat) : Statement (.rampOutEnd index) :=
  fun h => ⟨Nat.zero_le _, indexFits_bound h⟩

theorem flickerHalfChange (index : Nat) : Statement (.flickerHalfChange index) :=
  fun h => ⟨Nat.zero_le _, indexFits_bound h⟩

theorem muteRampEnd : Statement .muteRampEnd :=
  fun _ => ⟨Nat.zero_le _, Nat.zero_le _⟩

theorem unmuteRampEnd : Statement .unmuteRampEnd :=
  fun _ => ⟨Nat.zero_le _, Nat.zero_le _⟩

theorem heldResponsePlaced : Statement .heldResponsePlaced :=
  fun _ => ⟨Nat.zero_le _, Nat.zero_le _⟩

theorem identify (tag : Tag) (payload : List Word) : Statement (.identify tag payload) :=
  fun h => ⟨payloadFits_bound h, Nat.zero_le _⟩

theorem getStatus (tag : Tag) (payload : List Word) : Statement (.getStatus tag payload) :=
  fun h => ⟨payloadFits_bound h, Nat.zero_le _⟩

theorem takeFlags (tag : Tag) (payload : List Word) : Statement (.takeFlags tag payload) :=
  fun h => ⟨payloadFits_bound h, Nat.zero_le _⟩

theorem getParam (tag : Tag) (payload : List Word) : Statement (.getParam tag payload) :=
  fun h => ⟨payloadFits_bound h, Nat.zero_le _⟩

theorem setParam (tag : Tag) (payload : List Word) : Statement (.setParam tag payload) :=
  fun h => ⟨payloadFits_bound h, Nat.zero_le _⟩

theorem setPlanBase (tag : Tag) (value : Word) : Statement (.setPlanBase tag value) :=
  fun _ => ⟨Nat.le_add_left 1 254, Nat.zero_le _⟩

theorem setTripAction (tag : Tag) (value : Word) : Statement (.setTripAction tag value) :=
  fun _ => ⟨Nat.le_add_left 1 254, Nat.zero_le _⟩

theorem setFoldFloor (tag : Tag) (value : Word) : Statement (.setFoldFloor tag value) :=
  fun _ => ⟨Nat.le_add_left 1 254, Nat.zero_le _⟩

theorem resetEngine (tag : Tag) (payload : List Word) : Statement (.resetEngine tag payload) :=
  fun h => ⟨payloadFits_bound h, Nat.zero_le _⟩

theorem writeDesc (tag : Tag) (payload : List Word) : Statement (.writeDesc tag payload) :=
  fun h => ⟨payloadFits_bound h, Nat.zero_le _⟩

theorem readDesc (tag : Tag) (payload : List Word) : Statement (.readDesc tag payload) :=
  fun h => ⟨payloadFits_bound h, Nat.zero_le _⟩

theorem eraseDesc (tag : Tag) (payload : List Word) : Statement (.eraseDesc tag payload) :=
  fun h => ⟨payloadFits_bound h, Nat.zero_le _⟩

theorem writeSlots (tag : Tag) (payload : List Word) : Statement (.writeSlots tag payload) :=
  fun h => ⟨payloadFits_bound h, Nat.zero_le _⟩

theorem readSlots (tag : Tag) (payload : List Word) : Statement (.readSlots tag payload) :=
  fun h => ⟨payloadFits_bound h, Nat.zero_le _⟩

theorem run (tag : Tag) (payload : List Word) : Statement (.run tag payload) :=
  fun h => ⟨payloadFits_bound h, Nat.zero_le _⟩

theorem stepSlot (tag : Tag) (payload : List Word) : Statement (.stepSlot tag payload) :=
  fun h => ⟨payloadFits_bound h, Nat.zero_le _⟩

theorem halt (tag : Tag) (payload : List Word) : Statement (.halt tag payload) :=
  fun h => ⟨payloadFits_bound h, Nat.zero_le _⟩

theorem abort (tag : Tag) (payload : List Word) : Statement (.abort tag payload) :=
  fun h => ⟨payloadFits_bound h, Nat.zero_le _⟩

theorem clearFault (tag : Tag) (payload : List Word) : Statement (.clearFault tag payload) :=
  fun h => ⟨payloadFits_bound h, Nat.zero_le _⟩

theorem setCycle (tag : Tag) (payload : List Word) : Statement (.setCycle tag payload) :=
  fun h => ⟨payloadFits_bound h, Nat.zero_le _⟩

theorem arm (tag : Tag) (payload : List Word) : Statement (.arm tag payload) :=
  fun h => ⟨payloadFits_bound h, Nat.zero_le _⟩

theorem readContexts (tag : Tag) (payload : List Word) : Statement (.readContexts tag payload) :=
  fun h => ⟨payloadFits_bound h, Nat.zero_le _⟩

theorem setMarker (tag : Tag) (payload : List Word) : Statement (.setMarker tag payload) :=
  fun h => ⟨payloadFits_bound h, Nat.zero_le _⟩

theorem readMarkers (tag : Tag) (payload : List Word) : Statement (.readMarkers tag payload) :=
  fun h => ⟨payloadFits_bound h, Nat.zero_le _⟩

theorem undefinedCommandCode (code : Code) (tag : Tag) (payload : List Word) : Statement (.undefinedCommandCode code tag payload) :=
  fun h => ⟨payloadFits_bound (Bool.and_eq_true_iff.mp h).2, Nat.zero_le _⟩

theorem microsecondTick (level : Level) : Statement (.microsecondTick level) :=
  fun _ => ⟨Nat.zero_le _, Nat.zero_le _⟩

theorem failingUinFrame (words : List Word) : Statement (.failingUinFrame words) :=
  fun h => ⟨oneFrame_length (Bool.and_eq_true_iff.mp h).1, Nat.zero_le _⟩

end Sys2Proof.Laws.Fits
end

