-- ==== Sys2Proof/Laws/Reports.lean ====
section
/-! SUPPORT. Laws of the Report Queue and the executor: how a response joins, what a freed place allows, and
what the records that responses carry are as words. -/

namespace Sys2Proof.Machine

open Sys2Proof.Safety

/-! ### Responses (R147, R149) -/

/-- A response joins the tail, and the executor takes the oldest waiting command. -/
theorem takeCommand_afterResponse (r : Report) (s : State) :
    takeCommand
        ((s.withRpq { s.rpq with queue := s.rpq.queue ++ [r] }).withCmx { s.cmx with exec := .idle }) =
      { s with
        rpq := { s.rpq with queue := s.rpq.queue ++ [r] }
        cmx := afterResponse s.cmx.buffer } := by
  cases hb : s.cmx.buffer <;>
    simp only [takeCommand, State.withCmx, State.withRpq, hb, afterResponse]

/-- All that placing a held response does. -/
theorem placeHeld_holding (r : Report) (s : State) (h : s.cmx.exec = .holding r) :
    placeHeld s =
      if s.rpq.queue.length < 8 then
        { s with
          rpq := { s.rpq with queue := s.rpq.queue ++ [r] }
          cmx := afterResponse s.cmx.buffer }
      else s := by
  simp only [placeHeld, h, takeCommand_afterResponse]; rfl

/-- All that freeing a place of the queue does. -/
theorem placeFreed_spec (s : State) : PlaceFreed s (placeFreed s) := by
  unfold PlaceFreed placeFreed
  cases h : s.cmx.exec with
  | idle => rfl
  | executing c => rfl
  | holding r =>
    by_cases hc : (chooseFirst s).1 = true
    · dsimp only
      rw [if_pos hc, placeHeld_holding r (chooseFirst s).2 h]
      split
      · exact .inr ⟨‹_›, rfl⟩
      · exact .inl rfl
    · dsimp only
      rw [if_neg hc]
      exact .inl rfl

/-- All that forming and offering a response does. -/
theorem respond_answered (c : Cmd) (a : Answer) (s : State) :
    respond c a s = answered c (formAnswer a s).1 (formAnswer a s).2 s := by
  unfold respond offerResponse answered
  simp only [takeCommand_afterResponse]; rfl

/-! ### Words of records (section 11.4.1) -/

theorem halves_eq_word2 (h l : Nat) : halves h l = word2 h l := by
  apply BitVec.eq_of_toNat_eq
  simp only [halves, word2, BitVec.toNat_append, BitVec.toNat_ofNat]
  rw [← Nat.shiftLeft_add_eq_or_of_lt (by omega), Nat.shiftLeft_eq]
  omega

theorem bytes_eq_word4 (b3 b2 b1 b0 : Nat) : bytes b3 b2 b1 b0 = word4 b3 b2 b1 b0 := by
  apply BitVec.eq_of_toNat_eq
  simp only [bytes, word4, BitVec.toNat_append, BitVec.toNat_ofNat]
  rw [← Nat.shiftLeft_add_eq_or_of_lt (by omega), ← Nat.shiftLeft_add_eq_or_of_lt (by omega),
    ← Nat.shiftLeft_add_eq_or_of_lt (by omega)]
  simp only [Nat.shiftLeft_eq]
  omega

theorem slotRecord_eq (s : Option Slot) : slotRecord s = slotWord s := by
  rcases s with _ | ⟨o, p⟩
  · decide
  · cases p <;> exact bytes_eq_word4 _ _ _ _

theorem byteOfInt_eq (i : Int) : byteOfInt i = (BitVec.ofInt 8 i).toNat := by
  simp only [byteOfInt, BitVec.toNat_ofInt]; rfl

theorem descRecord_eq (d : Desc) : descRecord d = descWords d := by
  have hk : kindCode d.kind = kindField d.kind := by cases d.kind <;> rfl
  have hm : nextModeCode d.nextMode = nextModeField d.nextMode := by cases d.nextMode <;> rfl
  have hn : notifyCode d.notify = notifyField d.notify := by cases d.notify <;> rfl
  have hl : boolCode d.locked = yes d.locked := by cases d.locked <;> rfl
  simp only [descRecord, descWords, bytes_eq_word4, halves_eq_word2, hk, hm, hn, hl, byteOfInt_eq, number]

theorem markerRecord_eq (m : Marker) : markerRecord m = markerWords m := by
  obtain ⟨st, cond, a, mode, w⟩ := m
  cases st <;> cases cond <;> cases mode <;>
    simp only [markerRecord, markerWords, bytes_eq_word4, halves_eq_word2] <;> rfl

theorem faultRecord_eq (r : Option FaultRecord) : faultRecord r = faultWords r := by
  rcases r with _ | ⟨cause, c, a⟩
  · rfl
  · cases cause with
    | trip p =>
      cases p <;> simp only [faultRecord, faultWords, faultWord, bytes_eq_word4, halves_eq_word2] <;> rfl
    | _ => simp only [faultRecord, faultWords, faultWord, bytes_eq_word4, halves_eq_word2]

end Sys2Proof.Machine
end

