-- ==== Sys2Proof/Laws/Tables.lean ====
section
/-! SUPPORT. Laws of the tables: a read after a write, and the canonical form kept by every operation. -/

namespace Sys2Proof.Machine

variable {α : Type}

/-- Every index of the table is above `i`. -/
def keysAbove (i : Nat) (t : List (Nat × α)) : Prop := ∀ e ∈ t, i < e.1

theorem keysRise_cons (i : Nat) (x : α) (t : List (Nat × α)) :
    keysRise ((i, x) :: t) = true ↔ keysAbove i t ∧ keysRise t = true := by
  induction t generalizing i x with
  | nil => simp [keysRise, keysAbove]
  | cons e t ih =>
    obtain ⟨j, y⟩ := e
    simp only [keysRise, Bool.and_eq_true, decide_eq_true_eq, keysAbove, List.mem_cons,
      forall_eq_or_imp]
    constructor
    · rintro ⟨h1, h2⟩
      exact ⟨⟨h1, fun e he => Nat.lt_trans h1 (((ih j y).1 h2).1 e he)⟩, h2⟩
    · rintro ⟨⟨h1, -⟩, h2⟩
      exact ⟨h1, h2⟩

theorem tableGet_below (t : List (Nat × α)) (i : Nat) (h : keysAbove i t) : tableGet t i = none := by
  induction t with
  | nil => rfl
  | cons e t ih =>
    obtain ⟨j, x⟩ := e
    have hj : i < j := h (j, x) (by simp)
    have : j ≠ i := by omega
    simp only [tableGet, this, if_false]
    exact ih (fun e he => h e (by simp [he]))

theorem tableGet_erase (t : List (Nat × α)) (i k : Nat) :
    tableGet (tableErase t i) k = if k = i then none else tableGet t k := by
  induction t with
  | nil => simp [tableErase, tableGet]
  | cons e t ih =>
    obtain ⟨j, x⟩ := e
    by_cases hj : j = i
    · subst hj
      simp only [tableErase, if_true, ih, tableGet]
      by_cases hk : k = j
      · simp [hk]
      · simp [hk, Ne.symm hk]
    · simp only [tableErase, hj, if_false, tableGet, ih]
      by_cases hk : j = k
      · subst hk; simp [hj]
      · simp [hk]

theorem tableGet_set (t : List (Nat × α)) (i k : Nat) (v : α) (h : keysRise t = true) :
    tableGet (tableSet t i v) k = if k = i then some v else tableGet t k := by
  induction t with
  | nil => by_cases hk : i = k <;> simp [tableSet, tableGet, hk, eq_comm]
  | cons e t ih =>
    obtain ⟨j, x⟩ := e
    have hr := (keysRise_cons j x t).1 h
    by_cases h1 : i < j
    · simp only [tableSet, h1, if_true, tableGet]
      by_cases hk : i = k
      · simp [hk]
      · simp [hk, Ne.symm hk]
    · by_cases h2 : i = j
      · subst h2
        simp only [tableSet, Nat.lt_irrefl, if_false, if_true, tableGet]
        by_cases hk : i = k
        · simp [hk]
        · simp [hk, Ne.symm hk]
      · simp only [tableSet, h1, h2, if_false, tableGet, ih hr.2]
        by_cases hk : j = k
        · subst hk; simp [Ne.symm h2]
        · simp [hk]

theorem mem_tableSet (t : List (Nat × α)) (i : Nat) (v : α) (e : Nat × α)
    (h : e ∈ tableSet t i v) : e = (i, v) ∨ e ∈ t := by
  induction t with
  | nil => simpa [tableSet] using h
  | cons d t ih =>
    obtain ⟨j, x⟩ := d
    simp only [tableSet] at h
    split at h
    · simpa using h
    · split at h
      · rcases List.mem_cons.1 h with h | h
        · exact .inl h
        · exact .inr (by simp [h])
      · rcases List.mem_cons.1 h with h | h
        · exact .inr (by simp [h])
        · rcases ih h with h | h
          · exact .inl h
          · exact .inr (by simp [h])

theorem mem_tableErase (t : List (Nat × α)) (i : Nat) (e : Nat × α) (h : e ∈ tableErase t i) : e ∈ t := by
  induction t with
  | nil => simp [tableErase] at h
  | cons d t ih =>
    obtain ⟨j, x⟩ := d
    simp only [tableErase] at h
    split at h
    · exact List.mem_cons_of_mem _ (ih h)
    · rcases List.mem_cons.1 h with h | h
      · simp [h]
      · exact List.mem_cons_of_mem _ (ih h)

theorem keysRise_set (t : List (Nat × α)) (i : Nat) (v : α) (h : keysRise t = true) :
    keysRise (tableSet t i v) = true := by
  induction t with
  | nil => rfl
  | cons e t ih =>
    obtain ⟨j, x⟩ := e
    have hr := (keysRise_cons j x t).1 h
    simp only [tableSet]
    split
    · rename_i h1
      refine (keysRise_cons i v _).2 ⟨?_, h⟩
      intro e he
      rcases List.mem_cons.1 he with he | he
      · simpa [he] using h1
      · exact Nat.lt_trans h1 (hr.1 e he)
    · split
      · rename_i h2
        subst h2
        exact (keysRise_cons i v t).2 hr
      · rename_i h1 h2
        refine (keysRise_cons j x _).2 ⟨?_, ih hr.2⟩
        intro e he
        rcases mem_tableSet t i v e he with he | he
        · simp [he]; omega
        · exact hr.1 e he

theorem keysRise_erase (t : List (Nat × α)) (i : Nat) (h : keysRise t = true) :
    keysRise (tableErase t i) = true := by
  induction t with
  | nil => rfl
  | cons e t ih =>
    obtain ⟨j, x⟩ := e
    have hr := (keysRise_cons j x t).1 h
    simp only [tableErase]
    split
    · exact ih hr.2
    · exact (keysRise_cons j x _).2 ⟨fun e he => hr.1 e (mem_tableErase t i e he), ih hr.2⟩

theorem tableWf_iff (n : Nat) (t : List (Nat × α)) :
    tableWf n t = true ↔ keysRise t = true ∧ ∀ e ∈ t, e.1 < n := by
  simp [tableWf]

/-- Writing an entry inside the table keeps the canonical form. -/
theorem tableWf_set (n : Nat) (t : List (Nat × α)) (i : Nat) (v : α) (hi : i < n)
    (h : tableWf n t = true) : tableWf n (tableSet t i v) = true := by
  rw [tableWf_iff] at h ⊢
  refine ⟨keysRise_set t i v h.1, fun e he => ?_⟩
  rcases mem_tableSet t i v e he with he | he
  · simpa [he] using hi
  · exact h.2 e he

/-- Emptying an entry keeps the canonical form. -/
theorem tableWf_erase (n : Nat) (t : List (Nat × α)) (i : Nat) (h : tableWf n t = true) :
    tableWf n (tableErase t i) = true := by
  rw [tableWf_iff] at h ⊢
  exact ⟨keysRise_erase t i h.1, fun e he => h.2 e (mem_tableErase t i e he)⟩

/-- Writing or emptying an entry inside the table keeps the canonical form. -/
theorem tableWf_put (n : Nat) (t : List (Nat × α)) (i : Nat) (v : Option α) (hi : i < n)
    (h : tableWf n t = true) : tableWf n (tablePut t i v) = true := by
  cases v with
  | none => exact tableWf_erase n t i h
  | some x => exact tableWf_set n t i x hi h

/-- A read after a write or an emptying. -/
theorem tableGet_put (t : List (Nat × α)) (i k : Nat) (v : Option α) (h : keysRise t = true) :
    tableGet (tablePut t i v) k = if k = i then v else tableGet t k := by
  cases v with
  | none => exact tableGet_erase t i k
  | some x => exact tableGet_set t i k x h

end Sys2Proof.Machine
end

