-- ==== Sys2Proof/Tests/Slice0.lean ====
section
/-! SUPPORT. Tests on single steps of small states, ill-formed commands refused, and for every statement with
hypotheses a state and operands that meet them. Expected values are the spec's worked cases (01 section 1.4.1,
04 section 4.4, 05 section 5.8, 06 sections 6.3 and 6.4.1, 07 section 7.11) or hand calculation. Check words
are those of an independent CRC program (generator 1021h, start FFFFh). -/

set_option Elab.async false

namespace Sys2Proof.Tests

open Sys2Proof.Machine Sys2Proof.Safety

/-! ### Ill-formed commands are refused -/

/-- A payload one word longer than a COMMAND frame carries. -/
def longPayload : List Word := List.replicate 253 0

theorem test_sample_frame_with_command_header : WellFormed (.sampleFrame [0xA5020300, 0, 0]) = false := by
  decide +kernel

theorem test_sample_frame_one_word_short :
    WellFormed (.sampleFrame [0xA5010607, 0, 0, 0, 0]) = false := by decide +kernel

theorem test_sample_frame_without_sync_byte :
    WellFormed (.sampleFrame [0xA4010607, 0, 0, 0, 0, 0]) = false := by decide +kernel

theorem test_command_frame_with_sample_header :
    WellFormed (.commandFrame [0xA5010300, 0, 0]) = false := by decide +kernel

theorem test_measurement_frame_with_idle_header :
    WellFormed (.measurementFrame [0xA5060200, 0]) = false := by decide +kernel

theorem test_stage_report_frame_with_idle_header :
    WellFormed (.stageReportFrame [0xA5060200, 0]) = false := by decide +kernel

theorem test_idle_frame_with_stage_report_header :
    WellFormed (.idleFrame [0xA5050200, 0]) = false := by decide +kernel

theorem test_failing_uin_frame_of_a_uin_type :
    WellFormed (.failingUinFrame [0xA5060200, 0]) = false := by decide +kernel

theorem test_failing_uin_frame_of_length_one :
    WellFormed (.failingUinFrame [0xA5040100]) = true := by decide +kernel

theorem test_index_above_the_table :
    WellFormed (.lateStart 256) = false ∧ WellFormed (.gapEnd 256) = false ∧
      WellFormed (.rampInEnd 256) = false ∧ WellFormed (.rampOutEnd 256) = false ∧
      WellFormed (.flickerHalfChange 256) = false ∧ WellFormed (.gapEnd 255) = true := by
  decide +kernel

theorem test_payload_too_long :
    WellFormed (.identify 0 longPayload) = false ∧ WellFormed (.getStatus 0 longPayload) = false ∧
      WellFormed (.takeFlags 0 longPayload) = false ∧ WellFormed (.getParam 0 longPayload) = false ∧
      WellFormed (.setParam 0 longPayload) = false ∧ WellFormed (.resetEngine 0 longPayload) = false ∧
      WellFormed (.writeDesc 0 longPayload) = false ∧ WellFormed (.readDesc 0 longPayload) = false ∧
      WellFormed (.eraseDesc 0 longPayload) = false ∧ WellFormed (.writeSlots 0 longPayload) = false ∧
      WellFormed (.readSlots 0 longPayload) = false := by
  decide +kernel

theorem test_payload_too_long_for_the_scheduler_and_markers :
    WellFormed (.run 0 longPayload) = false ∧ WellFormed (.stepSlot 0 longPayload) = false ∧
      WellFormed (.halt 0 longPayload) = false ∧ WellFormed (.abort 0 longPayload) = false ∧
      WellFormed (.clearFault 0 longPayload) = false ∧ WellFormed (.setCycle 0 longPayload) = false ∧
      WellFormed (.arm 0 longPayload) = false ∧ WellFormed (.readContexts 0 longPayload) = false ∧
      WellFormed (.setMarker 0 longPayload) = false ∧ WellFormed (.readMarkers 0 longPayload) = false ∧
      WellFormed (.undefinedCommandCode 0x7777 0 longPayload) = false := by
  decide +kernel

theorem test_undefined_code_that_is_defined :
    WellFormed (.undefinedCommandCode 0x0020 0 []) = false ∧
      WellFormed (.undefinedCommandCode 0x0027 0 []) = true := by
  decide +kernel

/-! ### Words and frames (chapter 11) -/

theorem test_no_table_word_spells_a_command : decodeTableWord 32 0xA5010607 = none := by decide

theorem test_check_word_of_two_words : checkWord [0x31323334, 0x35363738] = 0x0000A12B := by
  decide +kernel

/-- A good SAMPLE frame: sequence 7, angle 1, control 5Ah, samples 1000, -2000, 131071. -/
def sampleWords : List Word :=
  [0xA5010607, 0x00015A00, 0x000003E8, 0x0003F830, 0x0001FFFF, 0x0000E6D8]

/-- The same frame with a wrong check word. -/
def brokenSample : List Word :=
  [0xA5010607, 0x00015A00, 0x000003E8, 0x0003F830, 0x0001FFFF, 0x0000E6D9]

/-- A good COMMAND frame: GET_STATUS, tag 20. -/
def statusCommand : List Word := [0xA5020300, 0x00020014, 0x00006DBF]

/-- A good COMMAND frame for the STAGE. -/
def stageCommand : List Word := [0xA5020301, 0x12345678, 0x00004F17]

/-- A good COMMAND frame with destination 02h. -/
def lostCommand : List Word := [0xA5020302, 0x12345678, 0x0000A1C5]

/-- A good MEASUREMENT frame: 40000, 40001, -40001. -/
def currents : List Word := [0xA5040500, 0x00009C40, 0x00009C41, 0x000363BF, 0x0000F689]

/-- A good STAGE_REPORT frame. -/
def stageReport : List Word := [0xA5050200, 0x00005F61]

/-- A good IDLE frame. -/
def idleWords : List Word := [0xA5060200, 0x00000631]

/-- A failing MEASUREMENT frame. -/
def brokenCurrents : List Word := [0xA5040500, 0x00009C40, 0x00009C41, 0x000363BF, 0x0000F688]

theorem test_the_frames_are_good :
    dinGood sampleWords = true ∧ dinGood brokenSample = false ∧ dinGood statusCommand = true ∧
      dinGood stageCommand = true ∧ uinGood currents = true ∧ uinGood stageReport = true ∧
      uinGood idleWords = true ∧ uinGood brokenCurrents = false := by
  decide +kernel

theorem test_fields_of_a_sample_frame :
    readSample sampleWords =
      { seq := 7, theta := 1, control := 0x5A, x := ⟨1000, -2000, 131071⟩ } := by
  decide +kernel

theorem test_identify_response_words :
    responseFrame codeIdentify 0x14 .ok identity =
      [0xA5070700, 0x00010014, 0, 0x0EF5191E, 0x01040800, 0x01000200, 0x0000BE66] := by
  decide +kernel

theorem test_link_notice_words :
    noticeFrame (.link false false) false = [0xA5070501, 0x0A000000, 0x01000000, 0, 0x0000ED38] := by
  decide +kernel

/-! ### The worked cases of the chapters -/

/-- A tracker with an angle, a last step and a count. -/
def antAt (theta lastStep cycle : Nat) : Ant :=
  { thetaP := some theta, lastStep := lastStep, cycle := cycle, start := 0, step := 0 }

theorem test_run_of_frames_2 :
    (track (.good 65406 false) (antAt 65340 0 0)).1 =
      { cls := .advance, start := 65340, step := 66, theta := 65406, cycle := 0 } ∧
      crosses (track (.good 65406 false) (antAt 65340 0 0)).1 65400 = true := by decide

theorem test_run_of_frames_4 :
    track (.good 1 false) (antAt 65471 65 0) =
      ({ cls := .boundary, start := 65471, step := 66, theta := 1, cycle := 1 },
       { thetaP := some 1, lastStep := 66, cycle := 1, start := 65471, step := 66 }) := by decide

theorem test_run_of_frames_7 :
    (track (.good 120 false) (antAt 132 65 1)).2 =
      { thetaP := some 120, lastStep := 0, cycle := 1, start := 132, step := 0 } := by decide

theorem test_extrapolated_boundary :
    (track .held (antAt 65516 66 7)).2 =
      { thetaP := some 46, lastStep := 66, cycle := 8, start := 65516, step := 66 } := by decide

theorem test_ramp_down_of_four :
    [rampValue 16384 11469 1 4, rampValue 16384 11469 2 4, rampValue 16384 11469 3 4] =
      [15156, 13927, 12698] := by decide

theorem test_ramp_up_of_four :
    [rampValue 11469 16384 1 4, rampValue 11469 16384 2 4, rampValue 11469 16384 3 4] =
      [12697, 13926, 15155] := by decide

theorem test_mute_ramp_from_10000 : rampValue 10000 0 1 32 = 9688 ∧ rampValue 10000 0 2 32 = 9375 := by
  decide

theorem test_sine_entries :
    [sineEntry 0, sineEntry 256, sineEntry 512, sineEntry 768, sineEntry 781, sineEntry 1023] =
      [0, 32767, 0, -32767, -32663, -201] := by decide

theorem test_terms : termOf 5000 (-32663) = -4984 ∧ termOf 3000 (-201) = -18 ∧ termOf 150 32767 = 150 := by
  decide

theorem test_gain_order :
    [11469, 17039, 15729].foldl gainStep (16384, false) = (11451, false) ∧
      [11469, 15729, 17039].foldl gainStep (16384, false) = (11450, false) ∧
      [40000, 40000, 8192].foldl gainStep (16384, false) = (32768, true) ∧
      [8192, 40000, 40000].foldl gainStep (16384, false) = (48828, false) := by decide

theorem test_scaled_inputs :
    scaledInput 100000 11469 = 70001 ∧ scaledInput 100000 8602 = 52502 ∧
      saturate (scaledInput 120000 19661) = 131071 := by decide

theorem test_third_harmonic_angles :
    harmonicAngle 0 43691 3 0 = 1 ∧ harmonicAngle 0 21845 3 0 = 65535 ∧
      harmonicAngle 66 21845 3 0 = 197 := by decide

theorem test_muting_through_the_slew_limit :
    limitPhase 116250 120000 2000 131071 = { y := 118000, slewed := true, clipped := false } ∧
      limitPhase 100100 100000 2000 50000 = { y := 50000, slewed := false, clipped := true } := by decide

theorem test_link_of_an_index : linkIndex 40 1 = 41 ∧ linkIndex 0 (-1) = 255 ∧ linkIndex 200 127 = 71 := by
  decide

/-! ### States of the tests -/

/-- The state a step leaves. -/
def after (o : Host.Outcome State Fault Refusal) : State :=
  match o with
  | .next t => t
  | .fault _ => .reset
  | .refused _ => .reset

/-- Both links UP, the angle at 65471 with a last step of 65, output sequence 200. -/
def linked : State :=
  { State.reset with
    ant := antAt 65471 65 0
    dsr :=
      { State.reset.dsr with
        link := .up, timer := some 160, selfTimer := none, expected := some 7, outSeq := 200 }
    up := { State.reset.up with link := .up, timer := some 160, cadence := none } }

/-- The LEVEL descriptor of a dip to 11469 with ramps of 4 frames from 90 to 180 degrees. -/
def dip : Desc :=
  { kind := .level, phases := 1, alpha := 16384, beta := 32768, hold := 0, rampIn := 4, rampOut := 4
    level := 11469, order := 0, phi := 0, freq := 0, half := 0, repeats := 1, gap := 0, next := 0
    nextMode := .after, notify := .off, locked := false }

/-- A FLICKER descriptor with half-period 2. -/
def flick : Desc :=
  { dip with kind := .flicker, rampIn := 0, rampOut := 0, level := 1310, half := 2 }

/-- A context of a descriptor at index 30. -/
def ctxOf (d : Desc) : Ctx :=
  { index := 30, snap := d, activation := 1, source := .command, firstFrame := false, life := .wait
    stepCount := 0, bounds := 0, lives := 0, value := 16384, rampStart := 16384, flickHalf := .high
    flickCount := 0, tone := 0, mark := .none }

/-- The linked state with one context. -/
def holding (c : Ctx) : State := { linked with cx := { set := [c], activation := 1 } }

/-- The linked state in a scheduler state. -/
def inState (st : SchedState) : State := { linked with sch := { linked.sch with state := st } }

/-- A marker on CYCLE 1 with every action. -/
def stopper : Marker := { state := .armed, cond := .cycle 1, actions := 7, mode := .once, width := 20 }

/-- A report to fill the queue. -/
def filler (notice : Bool) : Report := { notice := notice, words := [1, 2, 3, 4] }

/-- The linked state with reports waiting. -/
def reporting (notices responses : Nat) : State :=
  { linked with
    rpq :=
      { linked.rpq with
        queue := List.replicate notices (filler true) ++ List.replicate responses (filler false) } }

/-- The status of the newest report. -/
def lastStatus (s : State) : Nat :=
  match s.rpq.queue.getLast? with
  | some r => field (r.words.getD 2 0) 24 8
  | none => 99

/-! ### One step of each row -/

theorem test_power_on_reset : after (exec .powerOnReset linked) = State.reset := by decide +kernel

theorem test_sample_frame_hands_over_an_output_frame :
    (after (exec (.sampleFrame sampleWords) linked)).dsr.sending =
      .output
        { output := [0xA50306C8, 0x0001005A, 0x000003E8, 0xFFFFF830, 0x0001FFFF, 0x0000E3D0]
          forward := none } := by decide +kernel

theorem test_sample_frame_is_a_boundary :
    (after (exec (.sampleFrame sampleWords) linked)).ant =
      { thetaP := some 1, lastStep := 66, cycle := 1, start := 65471, step := 66 } := by decide +kernel

theorem test_command_frame_is_taken :
    (after (exec (.commandFrame statusCommand) linked)).cmx =
      { buffer := [], exec := .executing { code := 0x0002, tag := 0x0014, payload := [] } } := by
  decide +kernel

theorem test_command_frame_to_the_stage :
    (after (exec (.commandFrame stageCommand) linked)).dsr.slot = some stageCommand := by decide +kernel

/-- No frame has come since power-on, and the self-frame timer runs out. -/
def silent : State := { State.reset with dsr := { State.reset.dsr with selfTimer := some 1, outSeq := 200 } }

theorem test_self_generated_frame :
    (after (exec .selfGeneratedFrame silent)).dsr.sending =
      .output { output := [0xA50306C8, 0x00003000, 0, 0, 0, 0x00008F5A], forward := none } := by
  decide +kernel

/-- The downstream link timer at its last tick. -/
def downEdge : State := { linked with dsr := { linked.dsr with timer := some 1 } }

theorem test_downstream_link_loss :
    (after (exec .downstreamLinkLoss downEdge)).sch.state = .faulted ∧
      (after (exec .downstreamLinkLoss downEdge)).rpq.queue.map (fun r => field (r.words.getD 1 0) 24 8) =
        [10, 4] := by decide +kernel

theorem test_dout_frame_sent :
    (after (exec .doutFrameSent
      { linked with
        dsr := { linked.dsr with sending := .output { output := sampleWords, forward := some stageCommand } } }
      )).dsr.sending = .forwarded stageCommand := by decide +kernel

/-- Phase B watched as in section 6.4.1 before its third frame. -/
def watching : State :=
  { linked with
    par := { linked.par with tripAction := .foldback, ilim := ⟨40000, 40000, 40000⟩, tripQual := 3, foldStep := 2048 }
    cw := { linked.cw with b := { overs := 2, tripped := false, fold := 16384 } } }

theorem test_measurement_frame_trips_and_folds :
    (after (exec (.measurementFrame currents) watching)).cw =
      ⟨⟨0, false, 16384⟩, ⟨3, true, 14336⟩, ⟨1, false, 16384⟩⟩ := by decide +kernel

theorem test_stage_report_frame : (after (exec (.stageReportFrame stageReport) linked)).up.sending =
    some stageReport := by decide +kernel

theorem test_idle_frame_is_replaced :
    (after (exec (.idleFrame idleWords) (reporting 0 1))).up.sending = some [1, 2, 3, 4] := by
  decide +kernel

/-- Phase B TRIPPED under FOLDBACK one step below unity, its current at the limit. -/
def folding : State :=
  { watching with
    par := { watching.par with ilim := ⟨40000, 40001, 40001⟩ }
    cw := { watching.cw with b := { overs := 2, tripped := true, fold := 16000 } } }

theorem test_measurement_frame_ends_a_fold_back :
    (after (exec (.measurementFrame currents) folding)).cw.b = ⟨0, false, 16384⟩ ∧
      (after (exec (.measurementFrame currents) folding)).rpq.queue.map (fun r => r.words.getD 1 0) =
        [0x06000000] := by decide +kernel

theorem test_failing_uin_frame :
    flagIsSet (after (exec (.failingUinFrame brokenCurrents) linked)).flags .measCheck = true := by
  decide +kernel

/-- The upstream link timer at its last tick under a trip action. -/
def upEdge (a : TripAction) : State :=
  { linked with up := { linked.up with timer := some 1 }, par := { linked.par with tripAction := a } }

theorem test_upstream_link_loss :
    (after (exec .upstreamLinkLoss (upEdge .notify))).sch.state = .halted ∧
      (after (exec .upstreamLinkLoss (upEdge .safe))).sch.state = .faulted := by decide +kernel

/-- The upstream link LOST with the cadence timer at its last tick and one report waiting. -/
def cadenceEdge : State :=
  { reporting 1 0 with up := { linked.up with link := .lost true, timer := none, cadence := some 1 } }

theorem test_upstream_cadence_expiry :
    (after (exec .upstreamCadenceExpiry cadenceEdge)).up.sending = some [1, 2, 3, 4] := by decide +kernel

theorem test_uout_frame_sent :
    (after (exec .uoutFrameSent
      { linked with up := { linked.up with sending := some idleWords, outList := [stageReport] } })).up.sending =
      some stageReport := by decide +kernel

/-- SYNC_QUAL 4 and a count of 3, as on tick 7 of section 7.11. -/
def bouncing : State :=
  { linked with par := { linked.par with syncQual := 4 }, mku := { linked.mku with syncCount := 3 } }

theorem test_sync_in_edge :
    (after (exec .syncInEdge bouncing)).mku.syncLevel = .high ∧
      flagIsSet (after (exec .syncInEdge bouncing)).flags .syncIgnored = true := by decide +kernel

theorem test_tick_before_the_edge :
    (after (exec (.microsecondTick .low) bouncing)).mku.syncCount = 0 ∧
      (after (exec (.microsecondTick .low) bouncing)).dsr.timer = some 159 := by decide +kernel

theorem test_pulse_end :
    trigOut (after (exec .pulseEnd { linked with mku := { linked.mku with pulse := 1 } })) = .low := by
  decide +kernel

theorem test_trip_of_phase_b :
    (after (exec (.trip .b) watching)).cw.b = { overs := 3, tripped := true, fold := 14336 } := by
  decide +kernel

theorem test_late_start :
    (after (exec (.lateStart 30) (holding { ctxOf dip with bounds := 1 }))).cx.set.map (·.life) = [.rampIn] ∧
      flagIsSet (after (exec (.lateStart 30) (holding { ctxOf dip with bounds := 1 }))).flags .startLate =
        true := by decide +kernel

theorem test_gap_end :
    (after (exec (.gapEnd 30)
      (holding { ctxOf { dip with gap := 2 } with life := .gap, bounds := 1 }))).cx.set.map
        (fun c => (c.life, c.bounds)) = [(.wait, 1)] := by decide +kernel

theorem test_ramp_in_end :
    (after (exec (.rampInEnd 30) (holding { ctxOf dip with life := .rampIn, stepCount := 3 }))).cx.set.map
      (fun c => (c.life, c.value)) = [(.hold, 11469)] := by decide +kernel

theorem test_ramp_out_end :
    (after (exec (.rampOutEnd 30)
      (holding { ctxOf dip with life := .rampOut, stepCount := 3, rampStart := 11469 }))).cx.set = [] := by
  decide +kernel

theorem test_flicker_half_change :
    (after (exec (.flickerHalfChange 30)
      (holding { ctxOf flick with life := .hold, flickCount := 1 }))).cx.set.map
        (fun c => (c.flickHalf, c.value)) = [(.low, 17039)] := by decide +kernel

/-- A mute ramp at its last frame. -/
def ramping (m : Mute) : State := { linked with lmu := { linked.lmu with mute := m, rampStep := 31 } }

theorem test_mute_ramp_end : (after (exec .muteRampEnd (ramping .muting))).lmu.factor = 0 := by
  decide +kernel

theorem test_unmute_ramp_end :
    (after (exec .unmuteRampEnd (ramping .unmuting))).lmu.mute = .unmuted := by decide +kernel

/-- The executor holds a response. -/
def waitingResponse : State := { linked with cmx := { buffer := [], exec := .holding (filler false) } }

theorem test_held_response_placed :
    (after (exec .heldResponsePlaced waitingResponse)).rpq.queue = [filler false] := by decide +kernel

/-! ### One step of each engine command -/

theorem test_identify :
    (after (exec (.identify 0x14 []) linked)).rpq.queue.map (·.words) =
      [[0xA5070700, 0x00010014, 0, 0x0EF5191E, 0x01040800, 0x01000200, 0x0000BE66]] := by decide +kernel

theorem test_get_status :
    (after (exec (.getStatus 1 []) linked)).rpq.queue.map (fun r => (r.words.drop 3).dropLast) =
      [[0, 0, 0x00000101, 0, 0x40004000, 0x40004000, 0, 0, 0]] := by decide +kernel

theorem test_take_flags :
    (after (exec (.takeFlags 1 [0x100]) { linked with flags := 0x300 })).flags = 0x200 := by decide +kernel

theorem test_get_param :
    (after (exec (.getParam 1 [7]) linked)).rpq.queue.map (fun r => r.words.getD 3 0) = [43691] := by
  decide +kernel

theorem test_set_param_is_clamped :
    (after (exec (.setParam 1 [3, 0]) linked)).par.slew.a = 1 ∧
      lastStatus (after (exec (.setParam 1 [3, 0]) linked)) = 1 := by decide +kernel

theorem test_set_plan_base_is_pending :
    (after (exec (.setPlanBase 1 128) (inState .running))).sch.pendingBase = some 128 ∧
      (after (exec (.setPlanBase 1 64) linked)).sch.planBase = 64 := by decide +kernel

theorem test_set_trip_action_keeps_the_count :
    (after (exec (.setTripAction 1 2) watching)).cw.b = { overs := 2, tripped := false, fold := 16384 } := by
  decide +kernel

theorem test_set_fold_floor_raises_the_gain :
    (after (exec (.setFoldFloor 1 14000)
      { watching with cw := { watching.cw with b := ⟨4, true, 12288⟩ } })).cw.b = ⟨4, true, 14000⟩ := by
  decide +kernel

theorem test_reset_engine :
    (after (exec (.resetEngine 1 []) (holding (ctxOf dip)))).cx.set = [] ∧
      lastStatus (after (exec (.resetEngine 1 []) (inState .faulted))) = 6 := by decide +kernel

/-- The record of `dip` as section 11.4.1 lays it out. -/
def dipRecord : List Word :=
  [0x01010001, 0x01000000, 0x40008000, 0x00000000, 0x00040004, 0x2CCD0000, 0, 0]

theorem test_write_desc : (after (exec (.writeDesc 1 (30 :: dipRecord)) linked)).edt = [(30, dip)] := by
  decide +kernel

theorem test_read_desc :
    (after (exec (.readDesc 1 [30]) { linked with edt := [(30, dip)] })).rpq.queue.map
      (fun r => (r.words.drop 3).dropLast) = [dipRecord] := by decide +kernel

theorem test_erase_desc :
    (after (exec (.eraseDesc 1 [30]) { linked with edt := [(30, dip)] })).edt = [] ∧
      lastStatus (after (exec (.eraseDesc 1 [30])
        { inState .running with edt := [(30, { dip with locked := true })] })) = 7 := by decide +kernel

theorem test_write_slots :
    (after (exec (.writeSlots 1 [0x012C0002, 0x01010005, 0x01020006]) linked)).ring =
      [(300, { offset := 5, persistence := .once }), (301, { offset := 6, persistence := .every })] := by
  decide +kernel

theorem test_read_slots :
    (after (exec (.readSlots 1 [0x012C0002])
      { linked with ring := [(300, { offset := 5, persistence := .once })] })).rpq.queue.map
        (fun r => (r.words.drop 3).dropLast) = [[0x01010005, 0]] := by decide +kernel

theorem test_run : (after (exec (.run 1 []) linked)).sch.state = .running := by decide +kernel

theorem test_step : (after (exec (.stepSlot 1 []) linked)).sch.state = .stepping ∧
    lastStatus (after (exec (.stepSlot 1 []) (inState .running))) = 6 := by decide +kernel

theorem test_halt :
    (after (exec (.halt 1 []) (holding (ctxOf dip)))).cx.set.map (·.mark) = [.halt] := by decide +kernel

theorem test_abort :
    (after (exec (.abort 1 []) (holding { ctxOf dip with life := .hold, value := 11469 }))).cx.set.map
      (fun c => (c.life, c.rampStart, c.mark)) = [(.rampOut, 11469, .abort)] := by decide +kernel

/-- A context in HOLD without a ramp-out that notifies its end, and one in WAIT that does not. -/
def leaving : State :=
  { linked with
    rpq := (reporting 1 0).rpq
    cx :=
      { set :=
          [{ ctxOf { dip with notify := .finish, rampOut := 0 } with life := .hold },
           { ctxOf { dip with notify := .start } with index := 31 }]
        activation := 2 } }

theorem test_abort_notifies_behind_what_stood :
    abortedNotices leaving = [.ctxEnd 30 true 0] ∧
      (after (exec (.abort 1 []) leaving)).rpq.queue.map (fun r => (r.notice, r.words.getD 1 0)) =
        [(true, 2), (true, 0x02000000), (false, 0x00230001)] ∧
      (after (exec (.abort 1 []) leaving)).cx.set = [] := by decide +kernel

/-- Markers 0 and 1 on the start of the context from index 30, with NOTICE. -/
def startMarked : State :=
  { holding (ctxOf dip) with
    mku :=
      { linked.mku with
        markers :=
          { linked.mku.markers with
            m0 := { stopper with cond := .descStart 30, actions := 4 }
            m1 := { stopper with cond := .descStart 30, actions := 4 } } } }

theorem test_start_notice_between_two_mark_notices :
    (fireWithNotice (hitDescStart 30) 1 (.ctxStart 30 1 0 false) startMarked).rpq.queue.map
        (fun r => field (r.words.getD 1 0) 24 8) = [8, 1, 8] ∧
      (firedAround 1 (.ctxStart 30 1 0 false) (.descStart 30) startMarked).rpq.queue.map
        (fun r => field (r.words.getD 1 0) 24 8) = [8, 1, 8] := by decide +kernel

theorem test_clear_fault :
    (after (exec (.clearFault 1 []) (inState .faulted))).lmu.mute = .unmuting := by decide +kernel

theorem test_set_cycle : (after (exec (.setCycle 1 [65535]) linked)).ant.cycle = 65535 := by decide +kernel

theorem test_arm :
    (after (exec (.arm 1 [30]) { linked with edt := [(30, dip)] })).cx =
      { set := [ctxOf dip], activation := 1 } := by decide +kernel

theorem test_read_contexts :
    (after (exec (.readContexts 1 []) (holding (ctxOf dip)))).rpq.queue.map
      (fun r => (r.words.drop 3).dropLast) =
        [[1, 0x1E040000, 0x00010000, 0, 0x40004000, 0, 0] ++ dipRecord] := by decide +kernel

theorem test_set_marker :
    (after (exec (.setMarker 1 [2, 0x01050100, 0x03E80014]) linked)).mku.markers.m2 =
      { state := .armed, cond := .cycle 1000, actions := 5, mode := .every, width := 20 } := by
  decide +kernel

theorem test_read_markers :
    (after (exec (.readMarkers 1 []) { linked with mku := { linked.mku with pulse := 9 } })).rpq.queue.map
      (fun r => (r.words.drop 3).dropLast) = [List.replicate 12 0 ++ [0x01000009]] := by decide +kernel

theorem test_undefined_command_code :
    lastStatus (after (exec (.undefinedCommandCode 0x0027 1 []) linked)) = 2 := by decide +kernel

/-! ### Hypotheses of the statements, met -/

theorem test_witness_step :
    { linked with pending := [.run 0 []] }.pending = [.run 0 []] ∧ linked.pending = [] := by
  decide +kernel

/-- Every queue is as full as it can be, and a command waits. -/
def fullest : State :=
  { linked with
    rpq :=
      { linked.rpq with
        queue := List.replicate 6 (filler true) ++ [⟨false, List.replicate 117 0⟩, filler false] }
    cmx := { buffer := [⟨codeRun, 1, []⟩, ⟨codeHalt, 2, []⟩], exec := .executing ⟨codeStep, 3, []⟩ }
    dsr :=
      { linked.dsr with
        sending := .forwarded stageCommand
        outList := List.replicate 8 { output := sampleWords, forward := none } }
    up := { linked.up with sending := some idleWords, outList := [List.replicate 510 0, stageReport] }
    pending := [.stepSlot 3 []] }

theorem test_witness_queues : QueuesFit fullest ∧ step fullest = .next (after (step fullest)) :=
  ⟨⟨by decide +kernel, by decide +kernel,
    fun r h => h.elim ((by decide +kernel : ∀ r ∈ fullest.rpq.queue, r.words.length ≤ 117) r)
      (fun k => by cases k),
    fun _ k => (by cases k), by decide +kernel⟩, rfl⟩

/-- Table entries at the ends of both tables, and a command that erases one. -/
def tabled : State :=
  { linked with
    edt := [(0, dip), (255, flick)]
    ring := [(0, ⟨5, .once⟩), (511, ⟨6, .every⟩)]
    pending := [.eraseDesc 1 [255]] }

theorem test_witness_tables : TablesCanonical tabled ∧ step tabled = .next (after (step tabled)) :=
  ⟨by unfold TablesCanonical; decide +kernel, rfl⟩

/-- Eight contexts, and a command that would arm a ninth. -/
def crowd : State :=
  { linked with
    edt := [(30, dip)]
    cx := { set := (List.range 8).map (fun i => { ctxOf dip with index := i }), activation := 8 }
    pending := [.arm 1 [30]] }

theorem test_witness_active_set : ActiveSetLegal crowd ∧ step crowd = .next (after (step crowd)) :=
  ⟨by unfold ActiveSetLegal; decide +kernel, rfl⟩

/-- FAULTED in the thirty-first frame of the mute ramp. -/
def fading : State :=
  { inState .faulted with
    lmu := { linked.lmu with mute := .muting, factor := 512, rampStep := 31 }, pending := [.muteRampEnd] }

theorem test_witness_mute : MuteLegal fading ∧ step fading = .next (after (step fading)) :=
  ⟨by unfold MuteLegal; decide +kernel, rfl⟩

theorem test_parameters_in_range (s : State) (h : s.par = Params.powerOn) : ParamsInRange s := by
  unfold ParamsInRange
  rw [h]
  refine ⟨?_, ?_, ?_, ?_, by decide, by decide, by decide, by decide, ?_⟩
  · intro p; cases p <;> decide
  · intro p; cases p <;> decide
  · intro p; cases p <;> decide
  · intro p; cases p <;> decide
  · intro o ho; cases ho

/-- The gain of phase A at the floor, and a command that raises the floor. -/
def folded : State :=
  { linked with cw := { linked.cw with a := ⟨9, true, 4096⟩ }, pending := [.setFoldFloor 1 14000] }

theorem test_witness_fold : FoldLegal folded ∧ step folded = .next (after (step folded)) :=
  ⟨⟨test_parameters_in_range folded rfl, by intro p; cases p <;> decide +kernel⟩, rfl⟩

/-- Both link timers at their last tick, and the tick. -/
def lastTick : State :=
  { linked with
    dsr := { linked.dsr with timer := some 1 }, up := { linked.up with timer := some 1 }
    pending := [.microsecondTick .low] }

theorem test_witness_links : LinksLegal lastTick ∧ step lastTick = .next (after (step lastTick)) :=
  ⟨⟨fun _ => ⟨⟨1, rfl, by decide, by decide⟩, rfl, rfl⟩, fun h => absurd rfl h,
    fun _ => ⟨⟨1, rfl, by decide, by decide⟩, rfl⟩, fun h => absurd rfl h⟩, rfl⟩

/-- The angle at the top of its range, and a good frame. -/
def topAngle : State := { linked with ant := antAt 65535 65535 65535, pending := [.sampleFrame sampleWords] }

theorem test_witness_angles : AnglesLegal topAngle ∧ step topAngle = .next (after (step topAngle)) :=
  ⟨⟨by intro a h; cases h; decide, by decide, by decide, by decide, by decide⟩, rfl⟩

theorem test_witness_classes :
    ((49152 : Nat) ≤ 49152 ∧ (16383 : Nat) < 16384) ∧ (¬((49152 : Nat) ≤ 49151 ∧ 0 < 16384) ∧ 0 < 49151) ∧
      (¬((49152 : Nat) ≤ 49152 ∧ 16384 < 16384) ∧ (16384 : Nat) < 49152) := by decide

/-- A window from 65535 of one count. -/
def narrow : FrameInfo := { cls := .boundary, start := 65535, step := 1, theta := 0, cycle := 1 }

theorem test_witness_crossing :
    narrow.start < 65536 ∧ 0 < narrow.step ∧ narrow.step < 65536 ∧ crosses narrow 0 = true ∧
      { narrow with step := 0 }.step = 0 ∧ (trackFrom 65535 0 true (antAt 0 0 0)).1.cls = .boundary ∧
      (trackFrom 0 65535 true (antAt 0 0 0)).1.cls = .advance := by decide

theorem test_witness_terms : (65535 : Nat) ≤ 65535 ∧ (-32767 : Int) ≤ -32767 ∧ (32767 : Int) ≤ 32767 := by
  decide

theorem test_witness_notices :
    maskEnables { linked.par with notifyMask := 0 }.notifyMask (.link true true) = false ∧
      maskEnables linked.par.notifyMask (.link true true) = true ∧
      noticeCount (reporting 5 2).rpq.queue < 6 ∧ (reporting 5 2).rpq.queue.length < 8 ∧
      6 ≤ noticeCount (reporting 6 0).rpq.queue ∧ 8 ≤ (reporting 0 8).rpq.queue.length := by
  decide +kernel

theorem test_no_command (s : State) (h : s.cmx.exec = .idle) : NoCommand s := by
  intro c hc; rw [h] at hc; cases hc

theorem test_witness_good_sample :
    WholeGoodDin typeSample sampleWords linked ∧ WholeGoodDin typeSample sampleWords silent ∧
      NoCommand linked ∧ NoCommand silent ∧ linked.dsr.link = .up ∧ silent.dsr.link ≠ .up ∧
      linked.ant.thetaP = some 65471 ∧ linked.dsr.expected = some 7 :=
  ⟨by unfold WholeGoodDin; decide +kernel, by unfold WholeGoodDin; decide +kernel,
   test_no_command _ rfl, test_no_command _ rfl, rfl, by decide, rfl, rfl⟩

theorem test_witness_failing_sample :
    WholeFailingDin brokenSample linked ∧ headerType (brokenSample.headD 0) ≠ typeCommand ∧
      NoCommand linked :=
  ⟨by unfold WholeFailingDin; decide +kernel, by decide +kernel, test_no_command _ rfl⟩

theorem test_witness_self_generated :
    silent.dsr.link ≠ .up ∧ silent.dsr.selfTimer = some 1 ∧ NoCommand silent :=
  ⟨by decide, rfl, test_no_command _ rfl⟩

/-- A cycle boundary ahead, with slot 1 occupied and a Descriptor Table. -/
def launching (st : SchedState) (p : Persistence) (edt : List (Nat × Desc)) : State :=
  { inState st with ring := [(1, ⟨30, p⟩)], edt := edt }

/-- The dip whose WITH link leads to index 31. -/
def paired : Desc := { dip with next := 1, nextMode := .together }

/-- Two entries whose WITH links lead to one another. -/
def loop : List (Nat × Desc) := [(30, paired), (31, { paired with next := -1 })]

/-- No marker is armed and no context waits to hand over a chain. -/
theorem test_unhindered (s : State) (hm : s.mku = linked.mku)
    (hc : ∀ c, c ∈ s.cx.set → linksAfter c.snap = false) : Unhindered s := by
  refine ⟨fun k hk h => ?_, hc⟩
  rw [hm] at h
  exact absurd h ((by decide +kernel : ∀ k, k < 4 → (linked.mku.markers.get k).state ≠ .armed) k hk)

theorem test_witness_ring_launch :
    (after (exec (.sampleFrame sampleWords) (launching .running .once [(30, dip)]))).ant.cycle = 1 ∧
      (launching .running .once [(30, dip)]).ant.cycle = 0 ∧
      Unhindered (launching .running .once [(30, dip)]) ∧
      Reads (launching .running .once [(30, dip)]) ∧ Reads (launching .stepping .every []) ∧
      tableGet (launching .running .once [(30, dip)]).ring (1 % 512) = some ⟨30, .once⟩ ∧
      (((launching .running .once []).sch.pendingBase.getD
        (launching .running .once []).sch.planBase) + 30) % 256 = 30 ∧
      walk (launching .stepping .every []).edt 30 = .empty 30 ∧
      walk (launching .running .once loop).edt 30 = .long ∧ linksWith dip = false ∧
      findCtx (launching .running .once [(30, dip)]).cx.set 30 = none :=
  ⟨by decide +kernel, rfl, test_unhindered _ rfl (fun _ h => by cases h), .inl rfl, .inr rfl, rfl, rfl,
   by decide +kernel, by decide +kernel, rfl, rfl⟩

theorem test_ring_read_of_a_step :
    (after (exec (.sampleFrame sampleWords) (launching .stepping .once [(30, dip)]))).sch.state = .halted ∧
      (after (exec (.sampleFrame sampleWords) (launching .stepping .once [(30, dip)]))).ring = [] ∧
      (after (exec (.sampleFrame sampleWords) (launching .stepping .once [(30, dip)]))).cx.set.map
        (fun c => (c.index, c.firstFrame, c.bounds, c.mark)) = [(30, true, 1, .none)] := by
  decide +kernel

/-- The boundary to cycle 1 has come in a step, with the stopping marker set (R123). -/
def stopping : State :=
  { launching .stepping .once [(30, dip)] with
    ant := { linked.ant with cycle := 1 }, mku := { linked.mku with markers := { linked.mku.markers with m0 := stopper } } }

/-- The boundary frame to cycle 1. -/
def toOne : FrameInfo := { cls := .boundary, start := 65471, step := 66, theta := 1, cycle := 1 }

theorem test_stop_after_the_ring_read_marks_what_it_armed :
    (doItem toOne .cycleMarks (doItem toOne .ringRead stopping).1).1.cx.set.map (·.mark) = [.halt] ∧
      (doItem toOne .cycleMarks (doItem toOne .ringRead stopping).1).1.sch.state = .halted := by
  decide +kernel

theorem test_stop_before_the_ring_read_keeps_the_slot :
    (doItem toOne .ringRead (doItem toOne .cycleMarks stopping).1).1.cx.set = [] ∧
      (doItem toOne .ringRead (doItem toOne .cycleMarks stopping).1).1.ring = [(1, ⟨30, .once⟩)] := by
  decide +kernel

theorem test_witness_cycle_markers :
    (stopping.mku.markers.get 0).state = .armed ∧ (stopping.mku.markers.get 0).cond = .cycle 1 ∧
      (stopping.mku.markers.get 0).actions.getLsbD 0 = true ∧
      (stopping.mku.markers.get 0).actions.getLsbD 1 = true ∧ Reads stopping ∧
      (after (exec (.sampleFrame sampleWords) { linked with mku := stopping.mku })).ant.cycle = 1 :=
  ⟨rfl, rfl, by decide, by decide, .inr rfl, by decide +kernel⟩

/-- A context before the last frame of its ramp-out, with a number of repeats. -/
def endingCtx (n : Nat) : Ctx :=
  { ctxOf { dip with repeats := n, gap := 1 } with life := .rampOut, stepCount := 3 }

theorem test_witness_contexts_took :
    ((holding (endingCtx 2)).cx.set.map (·.index)).Nodup ∧ Unhindered (holding (endingCtx 2)) ∧
      LifeEnds true (fun _ => false) (endingCtx 2) ∧ (endingCtx 2).mark = .none ∧
      min ((endingCtx 2).lives + 1) 255 ≠ (endingCtx 2).snap.repeats ∧
      min ((endingCtx 1).lives + 1) 255 = (endingCtx 1).snap.repeats ∧
      ¬LifeEnds true (fun _ => true) (ctxOf dip) ∧
      (after (exec (.sampleFrame sampleWords) { holding (endingCtx 1) with ant := antAt 0 0 0 })).ant.cycle = 0 :=
  ⟨by decide +kernel,
   test_unhindered _ rfl
     ((by decide +kernel : ∀ c ∈ (holding (endingCtx 2)).cx.set, linksAfter c.snap = false)),
   .inl ⟨rfl, by decide⟩, rfl, by decide +kernel, by decide +kernel,
   by unfold LifeEnds HoldOver; decide +kernel, by decide +kernel⟩

/-- A FLICKER context in HOLD whose end angle the boundary crosses. -/
def lastHold : Ctx := { ctxOf { flick with beta := 0, repeats := 2 } with life := .hold }

theorem test_witness_last_hold_frame :
    LifeEnds true (crossedOn (after (exec (.sampleFrame sampleWords) (holding lastHold)))) lastHold ∧
      (after (exec (.sampleFrame sampleWords) (holding lastHold))).cx.set.map
        (fun c => (c.life, c.lives, c.bounds, c.value)) = [(.wait, 1, 0, 17039)] :=
  ⟨.inr ⟨rfl, by unfold HoldOver; decide +kernel, .inl rfl⟩, by decide +kernel⟩

/-- The limits of `test_witness_limit_notices`: slew 500 on every phase, peak 100 on phase B. -/
def limited : State :=
  { linked with par := { linked.par with slew := ⟨500, 500, 500⟩, peak := ⟨131071, 100, 131071⟩ } }

theorem test_witness_limit_notices :
    OnlyLimitsNotify 0 (dsrArrival (.good (readSample sampleWords)) limited)
        (after (exec (.sampleFrame sampleWords) limited)) ∧
      (after (exec (.sampleFrame sampleWords) limited)).rpq.queue.map (fun r => r.words.getD 2 0) =
        [0x02010000, 0x02020000, 0x01020000, 0x02040000] ∧
      (after (exec (.sampleFrame sampleWords) limited)).lmu.yPrev = ⟨500, -100, 500⟩ :=
  ⟨⟨by decide +kernel, (by decide +kernel :
      ∀ c ∈ ([] : List Ctx), c.snap.notify = .off ∧ linksAfter c.snap = false), .inr (.inr rfl)⟩,
   by decide +kernel⟩

/-- A running plan with a marker on CLIP of a mask that takes every action; the limit flags are set. -/
def clipping (mask : BitVec 3) : State :=
  { limited with
    flags := 63
    sch := { limited.sch with state := .running }
    mku := { limited.mku with markers := { limited.mku.markers with m1 := { stopper with cond := .clip mask } } } }

/-- What the samples of the frame on `clipping` are computed from. -/
def clippingInputs (mask : BitVec 3) : FrameInputs :=
  frameInputs 0 (dsrArrival (.good (readSample sampleWords)) (clipping mask))
    (after (exec (.sampleFrame sampleWords) (clipping mask)))

theorem test_witness_clip_markers :
    ((clipping 2).mku.markers.get 1).state = .armed ∧ ((clipping 2).mku.markers.get 1).cond = .clip 2 ∧
      (2 : BitVec 3).getLsbD (phaseBit .b) = true ∧ Reads (clipping 2) ∧ PeakActs (clippingInputs 2) .b ∧
      (after (exec (.sampleFrame sampleWords) (clipping 2))).mku.markers.m1.state = .spent ∧
      (after (exec (.sampleFrame sampleWords) (clipping 2))).sch.state = .halted :=
  ⟨rfl, rfl, by decide, .inl rfl, by unfold PeakActs; decide +kernel, by decide +kernel⟩

theorem test_witness_clip_marker_of_another_phase :
    ∀ p, (1 : BitVec 3).getLsbD (phaseBit p) = true → ¬PeakActs (clippingInputs 1) p := by
  unfold PeakActs
  intro p h
  cases p
  · decide +kernel
  · exact absurd h (by decide)
  · exact absurd h (by decide)

/-- Swells of 17039 and 15729 and a dip of 11469 at once, as in section 5.8, and a harmonic of order 3. -/
def busy : State :=
  { linked with
    cx :=
      { set :=
          [{ ctxOf { dip with level := 11469 } with index := 1, life := .hold },
           { ctxOf { dip with level := 17039 } with index := 2, life := .hold },
           { ctxOf { dip with level := 15729 } with index := 3, life := .hold },
           { ctxOf { dip with kind := .harmonic, level := 5000, order := 3, phi := 50000 } with
             index := 4, life := .hold }]
        activation := 4 } }

theorem test_samples_of_active_contexts :
    (after (exec (.sampleFrame sampleWords) busy)).lmu.yPrev.a = 699 - 4984 ∧
      (after (exec (.sampleFrame sampleWords) busy)).lmu.yPrev.b = -2000 := by decide +kernel

theorem test_mute_ramp_of_a_stop_at_full_scale :
    (after (exec (.sampleFrame sampleWords)
      { inState .faulted with lmu := { linked.lmu with mute := .muting } })).lmu.factor = 15872 ∧
      (after (exec (.sampleFrame sampleWords)
        { inState .faulted with
          lmu := { linked.lmu with mute := .muting, rampStep := 1, rampStart := 10000 } })).lmu.factor =
        9375 := by decide +kernel

theorem test_witness_presented :
    oneFrame sampleWords = true ∧ linked.dsr.din = .header ∧
      headerType (sampleWords.headD 0) ≠ typeCommand ∧ silent.dsr.link ≠ .up ∧
      silent.dsr.selfTimer = some 1 := by decide +kernel

theorem test_witness_limits :
    exec (.sampleFrame sampleWords) linked = .next (after (exec (.sampleFrame sampleWords) linked)) ∧
      -((after (exec (.sampleFrame sampleWords) linked)).par.peak.get .a : Int) ≤ linked.lmu.yPrev.get .a ∧
      linked.lmu.yPrev.get .a ≤ (after (exec (.sampleFrame sampleWords) linked)).par.peak.get .a :=
  ⟨rfl, by decide +kernel, by decide +kernel⟩

theorem test_witness_limits_of_a_self_generated_frame :
    exec .selfGeneratedFrame silent = .next (after (exec .selfGeneratedFrame silent)) ∧
      -((after (exec .selfGeneratedFrame silent)).par.peak.get .b : Int) ≤ silent.lmu.yPrev.get .b ∧
      silent.lmu.yPrev.get .b ≤ (after (exec .selfGeneratedFrame silent)).par.peak.get .b :=
  ⟨rfl, by decide +kernel, by decide +kernel⟩

theorem test_witness_at_rest :
    linked.cx.set = [] ∧ linked.lmu.mute = .unmuted ∧
      ∀ p, (linked.cw.get p).fold = 16384 ∧ linked.par.slew.get p = 262143 ∧
        linked.par.peak.get p = 131071 ∧ -131071 ≤ linked.lmu.yPrev.get p ∧
        linked.lmu.yPrev.get p ≤ 131071 :=
  ⟨rfl, rfl, by intro p; cases p <;> decide +kernel⟩

/-- A GET_STATUS in the executor, and full Report Queue or not. -/
def taken (s : State) : State := { s with cmx := { buffer := [], exec := .executing ⟨codeGetStatus, 20, []⟩ } }

theorem test_witness_taken :
    (taken linked).cmx.exec = .executing ⟨codeGetStatus, 20, []⟩ ∧ (taken linked).dsr.din = .header ∧
      (after (exec (.sampleFrame sampleWords) (taken linked))).cmx.exec = .idle ∧
      8 ≤ (after (exec (.sampleFrame sampleWords) (taken (reporting 6 2)))).rpq.queue.length := by
  decide +kernel

theorem test_witness_presents_with_a_command :
    Presents (.sampleFrame sampleWords) (.good (readSample sampleWords)) (taken linked) (taken linked) ∧
      Presents (.sampleFrame brokenSample) .failing (taken linked) (taken linked) ∧
      Presents .selfGeneratedFrame .selfGenerated (taken silent)
        { taken silent with dsr := { silent.dsr with selfTimer := some 20 } } ∧
      (taken silent).cmx.exec = .executing ⟨codeGetStatus, 20, []⟩ ∧
      (after (exec .selfGeneratedFrame (taken silent))).rpq.queue.length = 1 :=
  ⟨.inl ⟨sampleWords, rfl, by decide +kernel, rfl, by decide +kernel,
      (if_pos (by decide +kernel : dinGood sampleWords = true)).symm, rfl⟩,
   .inl ⟨brokenSample, rfl, by decide +kernel, rfl, by decide +kernel,
      (if_neg (by decide +kernel : ¬dinGood brokenSample = true)).symm, rfl⟩,
   .inr ⟨rfl, by decide, rfl, rfl, rfl⟩, rfl, by decide +kernel⟩

/-- A declared loss ends with no place for a notice. -/
def recovering : State := { reporting 6 0 with dsr := { linked.dsr with link := .lost true, timer := none } }

theorem test_recovery_with_a_discarded_notice_sets_a_flag :
    arrivalSetsFlag (.good (readSample sampleWords)) recovering = true ∧
      arrivalSetsFlag (.good (readSample sampleWords))
        { recovering with par := { linked.par with notifyMask := 127 } } = false ∧
      arrivalOrderOpen (.good (readSample sampleWords)) ⟨codeTakeFlags, 1, [0x100]⟩ recovering = true := by
  decide +kernel

/-- A Command Buffer with a number of commands behind the executor's. -/
def buffered (n : Nat) : State :=
  { linked with cmx := { buffer := List.replicate n ⟨codeRun, 1, []⟩, exec := .executing ⟨codeRun, 1, []⟩ } }

theorem test_witness_engine_command :
    WholeGoodDin typeCommand statusCommand (buffered 1) ∧ headerSub (statusCommand.headD 0) = 0 ∧
      (buffered 1).cmx.buffer.length < 2 ∧ 2 ≤ (buffered 2).cmx.buffer.length :=
  ⟨by unfold WholeGoodDin; decide +kernel, by decide +kernel, by decide +kernel, by decide +kernel⟩

theorem test_witness_other_commands :
    WholeGoodDin typeCommand stageCommand linked ∧ headerSub (stageCommand.headD 0) = 1 ∧
      linked.dsr.slot = none ∧ { linked.dsr with slot := some stageCommand }.slot ≠ none ∧
      WholeGoodDin typeCommand lostCommand linked ∧ 2 ≤ headerSub (lostCommand.headD 0) ∧
      WholeFailingDin [0xA5020300, 0, 0] linked ∧ headerType 0xA5020300 = typeCommand :=
  ⟨by unfold WholeGoodDin; decide +kernel, by decide +kernel, rfl, by decide,
   by unfold WholeGoodDin; decide +kernel, by decide +kernel, by unfold WholeFailingDin; decide +kernel,
   by decide +kernel⟩

theorem test_witness_uin_frames :
    WholeGoodUin typeMeasurement currents linked ∧ WholeGoodUin typeStageReport stageReport linked ∧
      WholeGoodUin typeIdle idleWords linked ∧ WholeFailingUin brokenCurrents linked ∧
      linked.up.link ≠ .lost true ∧ cadenceEdge.up.link = .lost true ∧
      WholeGoodUin typeStageReport stageReport cadenceEdge ∧ WholeGoodUin typeIdle idleWords cadenceEdge ∧
      WholeGoodUin typeMeasurement currents cadenceEdge := by
  refine ⟨?_, ?_, ?_, ?_, by decide, rfl, ?_, ?_, ?_⟩
  rotate_right
  · unfold WholeGoodUin; decide +kernel
  · unfold WholeGoodUin; decide +kernel
  · unfold WholeGoodUin; decide +kernel
  · unfold WholeGoodUin; decide +kernel
  · unfold WholeFailingUin; decide +kernel
  · unfold WholeGoodUin; decide +kernel
  · unfold WholeGoodUin; decide +kernel

/-- DOUT and UOUT in each state of sending. -/
def sendingState (d : DoutSending) (l : List DoutEntry) (u : List (List Word)) : State :=
  { linked with
    dsr := { linked.dsr with sending := d, outList := l }
    up := { linked.up with sending := some idleWords, outList := u } }

theorem test_witness_sendings :
    (sendingState (.output ⟨sampleWords, none⟩) [] []).dsr.sending = .output ⟨sampleWords, none⟩ ∧
      (sendingState (.output ⟨sampleWords, none⟩) [⟨sampleWords, none⟩] []).dsr.outList =
        [⟨sampleWords, none⟩] ∧
      (sendingState (.output ⟨sampleWords, some stageCommand⟩) [] []).dsr.sending =
        .output ⟨sampleWords, some stageCommand⟩ ∧
      (sendingState (.forwarded stageCommand) [] []).dsr.sending = .forwarded stageCommand ∧
      (sendingState (.forwarded stageCommand) [⟨sampleWords, none⟩] []).dsr.outList =
        [⟨sampleWords, none⟩] ∧
      (sendingState .nothing [] []).up.sending = some idleWords ∧
      (sendingState .nothing [] [stageReport]).up.outList = [stageReport] := by decide +kernel

theorem test_witness_losses :
    (downEdge.dsr.link = .up ∧ downEdge.dsr.timer = some 1) ∧
      ((upEdge .notify).up.link = .up ∧ (upEdge .notify).up.timer = some 1 ∧
        (upEdge .notify).par.tripAction = .notify) ∧
      ((upEdge .safe).up.timer = some 1 ∧ (upEdge .safe).par.tripAction ≠ .notify) := by decide +kernel

/-- Eight reports wait and the executor holds a response. -/
def heldUp : State := { reporting 6 2 with cmx := { buffer := [], exec := .holding (filler false) } }

theorem test_witness_freed_place :
    WholeGoodUin typeIdle idleWords heldUp ∧ heldUp.up.outList = [] ∧
      heldUp.rpq.queue = filler true :: (reporting 5 2).rpq.queue ∧
      heldUp.cmx.exec = .holding (filler false) ∧
      { heldUp with up := cadenceEdge.up }.up.cadence = some 1 :=
  ⟨by unfold WholeGoodUin; decide +kernel, rfl, by decide +kernel, rfl, rfl⟩

theorem test_witness_cadence :
    cadenceEdge.up.link ≠ .up ∧ cadenceEdge.up.cadence = some 1 ∧
      cadenceEdge.rpq.queue = [filler true] ∧ cadenceEdge.up.outList = [] ∧
      waitingResponse.cmx.exec = .holding (filler false) ∧ waitingResponse.rpq.queue.length < 8 ∧
      8 ≤ (reporting 6 2).rpq.queue.length := by decide +kernel

theorem test_witness_tick :
    (∀ r, linked.cmx.exec ≠ .holding r) ∧ Level.low = linked.mku.syncLevel ∧
      linked.mku.syncCount + 1 < linked.par.syncQual ∧
      (linked.dsr.link = .up → ∃ n, 2 ≤ n ∧ linked.dsr.timer = some n) ∧
      (linked.dsr.link ≠ .up → ∃ n, 2 ≤ n ∧ linked.dsr.selfTimer = some n) ∧
      (State.reset.dsr.link ≠ .up → ∃ n, 2 ≤ n ∧ State.reset.dsr.selfTimer = some n) ∧
      (State.reset.up.link ≠ .up → ∃ n, 2 ≤ n ∧ State.reset.up.cadence = some n) :=
  ⟨(fun _ h => by cases h), rfl, by decide, fun _ => ⟨160, by decide, rfl⟩, fun h => absurd rfl h,
   fun _ => ⟨20, by decide, rfl⟩, fun _ => ⟨20, by decide, rfl⟩⟩

theorem test_witness_tick_with_a_held_response :
    waitingResponse.cmx.exec = .holding (filler false) ∧ waitingResponse.rpq.queue.length < 8 ∧
      tickRows .low waitingResponse = [] := by decide +kernel

theorem test_witness_tick_on_which_a_count_runs_out :
    (∀ r, heldUp.cmx.exec = .holding r → 8 ≤ heldUp.rpq.queue.length) ∧
      tickRows .low { heldUp with dsr := downEdge.dsr } = [.downstreamLinkLoss] ∧
      tickRows .low { silent with up := linked.up } = [.selfGeneratedFrame] ∧
      tickRows .low (upEdge .safe) = [.upstreamLinkLoss] ∧
      tickRows .low cadenceEdge = [.upstreamCadenceExpiry] ∧ tickRows .high bouncing = [.syncInEdge] :=
  ⟨fun _ _ => by decide +kernel, by decide +kernel⟩

/-- The sync sample of `bouncing` in a scheduler state, with the dip at the sync offset. -/
def syncing (st : SchedState) (offset : Option Nat) : State :=
  { bouncing with
    sch := { bouncing.sch with state := st, planBase := 255 }
    par := { bouncing.par with syncOffset := offset }
    edt := [(30, dip)] }

theorem test_witness_sync_edge :
    (syncing .running (some 31)).par.syncQual ≤ (syncing .running (some 31)).mku.syncCount + 1 ∧
      edgeMatches .falling .high = false ∧ edgeMatches .rising .high = true ∧
      tableGet (syncing .running (some 31)).edt ((255 + 31) % 256) = some dip ∧ linksWith dip = false ∧
      findCtx (syncing .running (some 31)).cx.set 30 = none ∧
      (syncing .running (some 31)).cx.set.length < 8 ∧ (syncing .halted none).sch.state = .halted ∧
      (syncing .stepping none).par.syncOffset = none := by decide +kernel

theorem test_witness_sync_faults :
    walk { syncing .running (some 31) with edt := [] }.edt ((255 + 31) % 256) = .empty 30 ∧
      walk { syncing .running (some 31) with edt := loop }.edt ((255 + 31) % 256) = .long ∧
      walk (syncing .running (some 31)).edt ((255 + 31) % 256) = .ok [30] := by
  decide +kernel

theorem test_witness_trip :
    (∃ s : State, (s.cw.get .b).tripped = false ∧ s.par.tripQual ≤ countAfter true (s.cw.get .b).overs ∧
      s.par.tripAction ≠ .safe) ∧
    (∃ s : State, (s.cw.get .b).tripped = false ∧ s.par.tripQual ≤ countAfter true (s.cw.get .b).overs ∧
      s.par.tripAction = .safe ∧ s.sch.fault = none ∧ s.sch.state ≠ .faulted) :=
  ⟨⟨watching, by decide +kernel⟩,
   ⟨{ watching with par := { watching.par with tripAction := .safe } }, by decide +kernel⟩⟩

theorem test_witness_late_start :
    ∃ c s, findCtx (State.cx s).set 30 = some c ∧ c.life = .wait ∧ c.bounds = 1 ∧
      crosses (presentFrameInfo .boundary s) c.snap.alpha = false :=
  ⟨{ ctxOf dip with bounds := 1 }, holding { ctxOf dip with bounds := 1 }, by decide +kernel⟩

/-- A window that crosses the start angle of the dip. -/
def overAlpha (c : Ctx) : State :=
  { holding c with ant := { thetaP := some 16400, lastStep := 66, cycle := 1, start := 16334, step := 66 } }

/-- A context one boundary before the end of its gap. -/
def inGap : Ctx := { ctxOf { dip with gap := 1 } with life := .gap }

theorem test_witness_gap_end :
    (∃ c s, findCtx (State.cx s).set 30 = some c ∧ c.life = .gap ∧ c.bounds + 1 = c.snap.gap ∧
      crosses (presentFrameInfo .boundary s) c.snap.alpha = false) ∧
    (∃ c s, findCtx (State.cx s).set 30 = some c ∧ c.life = .gap ∧ c.bounds + 1 = c.snap.gap ∧
      crosses (presentFrameInfo .boundary s) c.snap.alpha = true) :=
  ⟨⟨inGap, holding inGap, by decide +kernel⟩, ⟨inGap, overAlpha inGap, by decide +kernel⟩⟩

theorem test_witness_ramp_in_end :
    ∃ c s, findCtx (State.cx s).set 30 = some c ∧ c.life = .rampIn ∧ c.stepCount + 1 = c.snap.rampIn :=
  ⟨{ ctxOf dip with life := .rampIn, stepCount := 3 },
   holding { ctxOf dip with life := .rampIn, stepCount := 3 }, by decide +kernel⟩

/-- A context of a descriptor before the last frame of its ramp-out. -/
def rampedOut (d : Desc) (m : EndMark) : Ctx := { ctxOf d with life := .rampOut, stepCount := 3, mark := m }

/-- The dip with a chain to index 31. -/
def chained : Desc := { dip with next := 1 }

theorem test_witness_ramp_out_goes_on :
    ∃ c s, findCtx (State.cx s).set 30 = some c ∧ c.life = .rampOut ∧ c.stepCount + 1 = c.snap.rampOut ∧
      c.mark = .none ∧ (c.snap.repeats = 0 ∨ min (c.lives + 1) 255 ≠ c.snap.repeats) :=
  ⟨rampedOut { dip with repeats := 2 } .none, holding (rampedOut { dip with repeats := 2 } .none),
   by decide +kernel⟩

theorem test_witness_ramp_out_aborted :
    ∃ c s, findCtx (State.cx s).set 30 = some c ∧ c.life = .rampOut ∧ c.stepCount + 1 = c.snap.rampOut ∧
      c.mark = .abort :=
  ⟨rampedOut dip .abort, holding (rampedOut dip .abort), by decide +kernel⟩

theorem test_witness_ramp_out_complete :
    (∃ c s, findCtx (State.cx s).set 30 = some c ∧ c.life = .rampOut ∧ c.stepCount + 1 = c.snap.rampOut ∧
      c.mark = .halt) ∧
    (∃ c s, findCtx (State.cx s).set 30 = some c ∧ c.life = .rampOut ∧ c.stepCount + 1 = c.snap.rampOut ∧
      c.mark = .none ∧ c.snap.repeats ≠ 0 ∧ min (c.lives + 1) 255 = c.snap.repeats ∧
      linksAfter c.snap = false) :=
  ⟨⟨rampedOut dip .halt, holding (rampedOut dip .halt), by decide +kernel⟩,
   ⟨rampedOut dip .none, holding (rampedOut dip .none), by decide +kernel⟩⟩

theorem test_witness_ramp_out_chains :
    ∃ c s d, findCtx (State.cx s).set 30 = some c ∧ c.life = .rampOut ∧ c.stepCount + 1 = c.snap.rampOut ∧
      c.mark = .none ∧ c.snap.repeats ≠ 0 ∧ min (c.lives + 1) 255 = c.snap.repeats ∧
      linksAfter c.snap = true ∧ s.sch.state ≠ .faulted ∧
      tableGet s.edt (linkIndex 30 c.snap.next) = some d ∧ linksWith d = false ∧
      (∀ e, e ∈ s.cx.set → e.index ≠ 30 → e.index ≠ linkIndex 30 c.snap.next) ∧ s.cx.set.length ≤ 8 :=
  ⟨rampedOut chained .none, { holding (rampedOut chained .none) with edt := [(31, flick)] }, flick,
   by decide +kernel⟩

theorem test_witness_ramp_out_chain_faults :
    walk (holding (rampedOut chained .none)).edt (linkIndex 30 chained.next) = .empty 31 ∧
      walk { holding (rampedOut chained .none) with edt := loop }.edt (linkIndex 30 chained.next) = .long ∧
      walk { holding (rampedOut chained .none) with edt := [(31, flick)] }.edt (linkIndex 30 chained.next) =
        .ok [31] := by
  decide +kernel

/-- A FLICKER context before the last frame of its half, with its hold cycles. -/
def halfDone (hold : Nat) : Ctx := { ctxOf { flick with hold := hold } with life := .hold, flickCount := 1 }

theorem test_witness_flicker :
    (∃ c s, findCtx (State.cx s).set 30 = some c ∧ c.life = .hold ∧ c.snap.kind = .flicker ∧
      c.flickCount + 1 = c.snap.half ∧ crosses (presentFrameInfo .advance s) c.snap.beta = false) ∧
    (∃ c s, findCtx (State.cx s).set 30 = some c ∧ c.life = .hold ∧ c.snap.kind = .flicker ∧
      c.flickCount + 1 = c.snap.half ∧ c.bounds < c.snap.hold) :=
  ⟨⟨halfDone 0, holding (halfDone 0), by decide +kernel⟩,
   ⟨halfDone 1, holding (halfDone 1), by decide +kernel⟩⟩

theorem test_witness_not_due :
    linked.dsr.link = .up ∧ State.reset.dsr.link ≠ .up ∧ State.reset.up.link ≠ .up ∧ linked.up.link = .up ∧
      linked.mku.syncCount + 1 < linked.par.syncQual ∧ linked.mku.pulse ≠ 1 ∧
      (folded.cw.get .a).tripped = true ∧ linked.lmu.mute ≠ .muting ∧ linked.lmu.mute ≠ .unmuting ∧
      linked.dsr.sending = .nothing ∧ linked.up.sending = none ∧ findCtx linked.cx.set 30 = none := by
  decide +kernel

theorem test_witness_common_checks :
    commandOf (.getParam 1 [1, 2]) = some ⟨codeGetParam, 1, [1, 2]⟩ ∧
      Takes ⟨codeGetParam, 1, [1, 2]⟩ linked ∧ requiredLength codeGetParam [1, 2] ≠ some 2 ∧
      requiredLength 0x0027 [] = none ∧ Takes ⟨0x0027, 1, []⟩ linked :=
  ⟨rfl, .inl rfl, by decide +kernel, by decide +kernel, .inl rfl⟩

/-- An IDLE executor takes any command; an executing one the command it holds. -/
theorem test_witness_takes (c : Cmd) :
    Takes c linked ∧ Takes c { linked with cmx := { linked.cmx with exec := .executing c } } :=
  ⟨.inl rfl, .inr rfl⟩

theorem test_witness_flag_masks :
    8388608 ≤ (8388608 : Word).toNat ∧ (8388607 : Word).toNat < 8388608 := by decide

/-- The numbers that SET_PARAM writes, with their ranges. -/
def numberRows : List (Nat × Nat × Nat) :=
  [(0, 0, 131071), (1, 0, 131071), (2, 0, 131071), (3, 1, 262143), (4, 1, 262143), (5, 1, 262143)] ++
  [(6, 0, 65535), (7, 0, 65535), (8, 0, 65535), (10, 0, 131071), (11, 0, 131071), (12, 0, 131071)] ++
  [(13, 1, 255), (15, 1, 4096), (17, 1, 255)]

theorem test_witness_number_parameters :
    (17, 1, 255) ∈ numberRows ∧ (0, 0, 131071) ∈ numberRows ∧
      Takes ⟨codeSetParam, 1, [BitVec.ofNat 32 17, 0]⟩ linked :=
  ⟨by decide, by decide, .inl rfl⟩

theorem test_witness_code_parameters :
    20 < (21 : Word).toNat ∧ syncEdgeCode .both = (2 : Word).toNat ∧ 2 < (3 : Word).toNat ∧
      hi16 0x000000FF = 0 ∧ hi16 0x00010000 = 1 ∧ 2 ≤ hi16 0x00020000 ∧ (255 : Word).toNat ≤ 255 ∧
      255 < (256 : Word).toNat := by decide

theorem test_witness_trip_action_values :
    tripActionCode .notify = (0 : Word).toNat ∧ TripAction.notify = linked.par.tripAction ∧
      tripActionCode .safe = (2 : Word).toNat ∧ TripAction.safe ≠ linked.par.tripAction := by decide +kernel

theorem test_witness_reset_engine :
    (inState .faulted).sch.state = .faulted ∧ linked.sch.state ≠ .faulted := by decide +kernel

/-- A locked entry while the scheduler runs. -/
def lockedEntry : State := { inState .running with edt := [(255, { dip with locked := true })] }

theorem test_witness_descriptor_commands :
    255 < (256 : Word).toNat ∧ (255 : Word).toNat ≤ 255 ∧ lockedEntry.sch.state = .running ∧
      tableGet lockedEntry.edt 255 = some { dip with locked := true } ∧ linked.sch.state = .halted ∧
      dipRecord.length = 8 := by decide +kernel

theorem test_witness_refused_records :
    DescRefused (List.replicate 8 0) ∧ DescRefused (dipRecord.set 0 0x01080001) ∧
      DescRefused (dipRecord.set 1 0x01000200) ∧ ¬DescRefused dipRecord := by
  unfold DescRefused
  exact ⟨by decide +kernel, by decide +kernel, by decide +kernel, by decide +kernel⟩

theorem test_witness_record :
    dip.phases ≠ 0 ∧ dip.kind ≠ .flicker ∧ -128 ≤ { dip with next := -128 }.next ∧
      { dip with next := 127 }.next ≤ 127 ∧ (flick.kind = .flicker ∧ flick.level ≤ 32767 ∧ 1 ≤ flick.half) := by
  decide +kernel

theorem test_records_at_the_ends_of_next :
    readDescRecord (descRecord { dip with next := -128 }) = some { dip with next := -128 } ∧
      readDescRecord (descRecord flick) = some flick := by decide +kernel

theorem test_witness_slots :
    [(0x01010005 : Word), 0].length = lo16 0x01FE0002 ∧ hi16 0x01FE0002 + lo16 0x01FE0002 ≤ 512 ∧
      512 < hi16 0x01FF0002 + lo16 0x01FF0002 ∧ SlotRefused 0x02000000 ∧ SlotRefused 0x01030005 ∧
      ¬SlotRefused 0x01010005 ∧ ¬SlotRefused 0x00FF00FF ∧ tableWf 512 linked.ring = true := by
  simp only [SlotRefused]; decide +kernel

theorem test_witness_clear_fault :
    (inState .faulted).dsr.link = .up ∧ (inState .faulted).up.link = .up ∧
      ¬((cadenceEdge.dsr.link = .up) ∧ cadenceEdge.up.link = .up) := by decide +kernel

theorem test_witness_arm :
    tableGet linked.edt 30 = none ∧ walk [(30, dip)] 30 = .ok [30] ∧
      walk [(30, { dip with next := 1, nextMode := .together })] 30 = .empty 31 ∧
      walk [(30, { dip with next := 1, nextMode := .together }),
        (31, { dip with next := -1, nextMode := .together })] 30 = .long ∧
      findCtx (holding (ctxOf dip)).cx.set 30 ≠ none ∧ findCtx crowd.cx.set 30 = none ∧
      8 ≤ crowd.cx.set.length := by decide +kernel

/-- A chain of two entries whose second is in the set. -/
def secondInSet : State :=
  { linked with
    edt := [(30, { dip with next := 1, nextMode := .together }), (31, dip)]
    cx := { set := [{ ctxOf dip with index := 31 }], activation := 1 } }

theorem test_witness_arm_of_a_chain :
    walk secondInSet.edt 30 = .ok [30, 31] ∧ secondInSet.sch.state ≠ .faulted ∧
      (after (exec (.arm 1 [30]) secondInSet)).rpq.queue.map (fun r => (r.notice, r.words.getD 3 0)) =
        [(true, 0), (false, 0x00010001)] := by decide +kernel

theorem test_witness_markers :
    3 < (4 : Word).toNat ∧ 6 < field 0x07010000 24 8 ∧ field 0x02010000 24 8 = 2 ∧ 255 < hi16 0x01000001 ∧
      field 0x01080000 16 8 = 8 ∧ field 0 24 8 = 0 ∧ condCode (.clip 5) = field 0x04040100 24 8 ∧
      condArgument (.clip 5) = hi16 0x000500FF ∧ lo16 0x000500FF = 255 ∧ field 0x04040100 8 8 = 1 := by
  decide +kernel

end Sys2Proof.Tests
end

namespace Sys2Proof.EventDescriptors

open Sys2Proof.Machine Sys2Proof.Safety

/-! ### Command rows (log 3) -/

theorem exec_of_commandOf {i : Instr} {c : Cmd} (s : State) (hi : commandOf i = some c) :
    exec i s = .next (commandRow c s) := by
  cases i <;> cases hi <;> rfl

theorem commandRow_of_takes {c : Cmd} {s : State} (ht : Takes c s) : commandRow c s = carryOut c s := by
  unfold commandRow
  rcases ht with h | h
  · rw [h]
  · simp only [h, if_true]

/-- A row whose arrival fixes status and payload answers with them. -/
theorem exec_of_fixed {i : Instr} {c : Cmd} {s t : State} {st : Status} {payload : List Word}
    (hi : commandOf i = some c) (ht : Takes c s) (ha : commandArrives c s = (.fixed st payload, t)) :
    exec i s = .next (answered c st payload t) := by
  rw [exec_of_commandOf s hi, commandRow_of_takes ht, carryOut, ha, respond_answered]
  rfl

theorem commandArrives_setParam (tag : Tag) (i v : Word) (s : State) :
    commandArrives ⟨codeSetParam, tag, [i, v]⟩ s = plain (setParamTo i.toNat v s) := rfl

theorem commandArrives_writeDesc (tag : Tag) (w : Word) (record : List Word) (s : State)
    (hl : record.length = 8) :
    commandArrives ⟨codeWriteDesc, tag, w :: record⟩ s = plain (arriveWriteDesc (w :: record) s) := by
  have hreq : requiredLength codeWriteDesc (w :: record) = some 9 := rfl
  simp only [commandArrives, hreq, List.length_cons, hl, if_true]
  rfl

theorem commandArrives_eraseDesc (tag : Tag) (w : Word) (s : State) :
    commandArrives ⟨codeEraseDesc, tag, [w]⟩ s = plain (arriveEraseDesc [w] s) := rfl

/-! ### The plan base (R34) -/

theorem setParamTo_planBase (v : Word) (s : State) :
    setParamTo 9 v s = (clampStatus 0 255 v.toNat, writePlanBase (clamp 0 255 v.toNat) s) := rfl

theorem writePlanBase_eq (v : Nat) (s : State) :
    writePlanBase v s =
      if s.sch.state = .halted then { s with sch := { s.sch with planBase := v, pendingBase := none } }
      else { s with sch := { s.sch with pendingBase := some v } } := rfl

theorem clamp_zero (hi v : Nat) : clamp 0 hi v = min v hi := Nat.zero_max _

theorem clampStatus_zero (hi v : Nat) : clampStatus 0 hi v = if v ≤ hi then .ok else .okClamped := by
  have hmin : min v hi = v ↔ v ≤ hi := by omega
  simp only [clampStatus, clamp_zero, hmin]

/-- Settles O49: parameter 9 is a number from 0 to 255, written as R34 says. -/
theorem planBaseIsCurrentOrPending : Obligations.PlanBaseIsCurrentOrPending := by
  intro tag v s ht
  have ha := commandArrives_setParam tag 9 v s
  rw [show (9 : Word).toNat = 9 from rfl, setParamTo_planBase, clampStatus_zero, clamp_zero,
    writePlanBase_eq] at ha
  exact exec_of_fixed rfl ht ha

/-! ### Codes of a descriptor record (section 11.4.2) -/

theorem kindOfCode_eq_none_iff (n : Nat) : kindOfCode n = none ↔ n = 0 ∨ 6 ≤ n := by
  rcases n with _ | _ | _ | _ | _ | _ | n <;> simp [kindOfCode]

theorem nextModeOfCode_eq_none_iff (n : Nat) : nextModeOfCode n = none ↔ n = 0 ∨ 3 ≤ n := by
  rcases n with _ | _ | _ | n <;> simp [nextModeOfCode]

theorem notifyOfCode_eq_none_iff (n : Nat) : notifyOfCode n = none ↔ 4 ≤ n := by
  rcases n with _ | _ | _ | _ | n <;> simp [notifyOfCode]

theorem lockedOfCode_eq_none_iff (n : Nat) : lockedOfCode n = none ↔ 2 ≤ n := by
  rcases n with _ | _ | n <;> simp [lockedOfCode]

theorem kindField_of_kindOfCode {n : Nat} {k : Kind} (h : kindOfCode n = some k) : kindField k = n := by
  unfold kindOfCode at h; split at h <;> cases h <;> rfl

theorem nextModeField_of_nextModeOfCode {n : Nat} {m : NextMode} (h : nextModeOfCode n = some m) :
    nextModeField m = n := by
  unfold nextModeOfCode at h; split at h <;> cases h <;> rfl

theorem notifyField_of_notifyOfCode {n : Nat} {m : Notify} (h : notifyOfCode n = some m) :
    notifyField m = n := by
  unfold notifyOfCode at h; split at h <;> cases h <;> rfl

theorem yes_of_lockedOfCode {n : Nat} {b : Bool} (h : lockedOfCode n = some b) : yes b = n := by
  unfold lockedOfCode at h; split at h <;> cases h <;> rfl

theorem kindOfCode_kindCode (k : Kind) : kindOfCode (kindCode k % 256) = some k := by cases k <;> rfl

theorem nextModeOfCode_nextModeCode (m : NextMode) : nextModeOfCode (nextModeCode m % 256) = some m := by
  cases m <;> rfl

theorem notifyOfCode_notifyCode (n : Notify) : notifyOfCode (notifyCode n % 256) = some n := by
  cases n <;> rfl

theorem lockedOfCode_boolCode (b : Bool) : lockedOfCode (boolCode b % 256) = some b := by cases b <;> rfl

/-! ### Fields of the words that a record is built of -/

theorem field_of_bytes (b3 b2 b1 b0 : Nat) :
    field (bytes b3 b2 b1 b0) 24 8 = b3 % 256 ∧ field (bytes b3 b2 b1 b0) 16 8 = b2 % 256 ∧
      field (bytes b3 b2 b1 b0) 8 8 = b1 % 256 ∧ field (bytes b3 b2 b1 b0) 0 8 = b0 % 256 := by
  simp only [field, bytes, BitVec.toNat_ofNat]
  omega

theorem hi16_halves (h l : Nat) : hi16 (halves h l) = h % 65536 := by
  simp only [hi16, field, halves, BitVec.toNat_ofNat]
  omega

theorem lo16_halves (h l : Nat) : lo16 (halves h l) = l % 65536 := by
  simp only [lo16, field, halves, BitVec.toNat_ofNat]
  omega

/-- A signed byte is read back from the byte that carries it. -/
theorem signedByte_bytes_next (b3 b2 b0 : Nat) (i : Int) (hlo : -128 ≤ i) (hhi : i ≤ 127) :
    signedByte (bytes b3 b2 (byteOfInt i) b0) 8 = i := by
  have hbyte := (field_of_bytes b3 b2 (byteOfInt i) b0).2.2.1
  rw [signedByte, hbyte, byteOfInt, BitVec.toInt_ofNat', Int.bmod]
  omega

/-! ### Reading a record (R26, R27) -/

/-- The fields that depend on the kind, by the values that R27 refuses. -/
theorem kindFieldsInRange_eq_false_iff (k : Kind) (level order freq half : Nat) :
    kindFieldsInRange k level order freq half = false ↔
      (kindField k = 5 ∧ 32768 ≤ level) ∨ (kindField k = 3 ∧ (order ≤ 1 ∨ 51 ≤ order)) ∨
      (kindField k = 4 ∧ (freq = 0 ∨ 2147483648 ≤ freq)) ∨
      (kindField k = 5 ∧ (half = 0 ∨ 16777216 ≤ half)) := by
  cases k <;> simp [kindFieldsInRange, kindField] <;> omega

/-- The four codes of a record are defined. -/
structure RecordCodes (ws : List Word) (kind : Kind) (nextMode : NextMode) (notify : Notify)
    (locked : Bool) : Prop where
  kind : kindOfCode (field (ws.getD 0 0) 24 8) = some kind
  nextMode : nextModeOfCode (field (ws.getD 1 0) 24 8) = some nextMode
  notify : notifyOfCode (field (ws.getD 1 0) 16 8) = some notify
  locked : lockedOfCode (field (ws.getD 1 0) 8 8) = some locked

/-- The descriptor of a record with these codes. -/
def recordDesc (ws : List Word) (kind : Kind) (nextMode : NextMode) (notify : Notify) (locked : Bool) :
    Desc :=
  { kind := kind
    phases := BitVec.ofNat 3 (field (ws.getD 0 0) 16 8)
    alpha := hi16 (ws.getD 2 0)
    beta := lo16 (ws.getD 2 0)
    hold := hi16 (ws.getD 3 0)
    gap := lo16 (ws.getD 3 0)
    rampIn := keptIf (hasRamps kind) (hi16 (ws.getD 4 0))
    rampOut := keptIf (hasRamps kind) (lo16 (ws.getD 4 0))
    level := keptIf (hasLevel kind) (hi16 (ws.getD 5 0))
    phi := keptIf (hasPhi kind) (lo16 (ws.getD 5 0))
    order := keptIf (kind == .harmonic) (field (ws.getD 1 0) 0 8)
    freq := keptIf (kind == .tone) (ws.getD 6 0).toNat
    half := keptIf (kind == .flicker) (ws.getD 7 0).toNat
    repeats := field (ws.getD 0 0) 0 8
    next := signedByte (ws.getD 0 0) 8
    nextMode := nextMode
    notify := notify
    locked := locked }

section

variable {ws : List Word} {kind : Kind} {nextMode : NextMode} {notify : Notify} {locked : Bool}

/-- Where the codes of a record are defined, R27 tests the phases and the fields of the kind. -/
theorem readDescRecord_of_codes (h : RecordCodes ws kind nextMode notify locked) :
    readDescRecord ws =
      if field (ws.getD 0 0) 16 8 = 0 ∨ 8 ≤ field (ws.getD 0 0) 16 8 ∨
          kindFieldsInRange kind (hi16 (ws.getD 5 0)) (field (ws.getD 1 0) 0 8) (ws.getD 6 0).toNat
            (ws.getD 7 0).toNat = false then none
      else some (recordDesc ws kind nextMode notify locked) := by
  simp only [readDescRecord, h.kind, h.nextMode, h.notify, h.locked, Bool.or_eq_true, beq_iff_eq,
    decide_eq_true_eq, ← or_assoc (a := field (ws.getD 0 0) 16 8 = 0)]
  by_cases hp : field (ws.getD 0 0) 16 8 = 0 ∨ 8 ≤ field (ws.getD 0 0) 16 8
  · simp only [hp, if_true, true_or]
  · cases kindFieldsInRange kind (hi16 (ws.getD 5 0)) (field (ws.getD 1 0) 0 8) (ws.getD 6 0).toNat
        (ws.getD 7 0).toNat with
    | false => simp only [hp, if_false, if_true, or_true, Bool.false_eq_true]
    | true => simp only [hp, if_false, if_true, or_false, Bool.true_eq_false]; rfl

end

theorem recordCodes_or_readDescRecord_none (ws : List Word) :
    (∃ kind nextMode notify locked, RecordCodes ws kind nextMode notify locked) ∨
      readDescRecord ws = none ∧
        (kindOfCode (field (ws.getD 0 0) 24 8) = none ∨
          nextModeOfCode (field (ws.getD 1 0) 24 8) = none ∨
          notifyOfCode (field (ws.getD 1 0) 16 8) = none ∨
          lockedOfCode (field (ws.getD 1 0) 8 8) = none) := by
  cases hk : kindOfCode (field (ws.getD 0 0) 24 8) with
  | none => exact .inr ⟨by simp only [readDescRecord, hk], .inl rfl⟩
  | some kind =>
  cases hm : nextModeOfCode (field (ws.getD 1 0) 24 8) with
  | none => exact .inr ⟨by simp only [readDescRecord, hk, hm], .inr (.inl rfl)⟩
  | some nextMode =>
  cases hn : notifyOfCode (field (ws.getD 1 0) 16 8) with
  | none => exact .inr ⟨by simp only [readDescRecord, hk, hm, hn], .inr (.inr (.inl rfl))⟩
  | some notify =>
  cases hl : lockedOfCode (field (ws.getD 1 0) 8 8) with
  | none => exact .inr ⟨by simp only [readDescRecord, hk, hm, hn, hl], .inr (.inr (.inr rfl))⟩
  | some locked => exact .inl ⟨kind, nextMode, notify, locked, hk, hm, hn, hl⟩

/-- A record is refused for the values of R27 and for no others. -/
theorem readDescRecord_eq_none_iff (ws : List Word) : readDescRecord ws = none ↔ DescRefused ws := by
  have hkind := kindOfCode_eq_none_iff (field (ws.getD 0 0) 24 8)
  have hmode := nextModeOfCode_eq_none_iff (field (ws.getD 1 0) 24 8)
  have hnotify := notifyOfCode_eq_none_iff (field (ws.getD 1 0) 16 8)
  have hlocked := lockedOfCode_eq_none_iff (field (ws.getD 1 0) 8 8)
  simp only [DescRefused]
  rcases recordCodes_or_readDescRecord_none ws with ⟨kind, nextMode, notify, locked, hc⟩ | ⟨hnone, hcode⟩
  · have hrange := kindFieldsInRange_eq_false_iff kind (hi16 (ws.getD 5 0)) (field (ws.getD 1 0) 0 8)
      (ws.getD 6 0).toNat (ws.getD 7 0).toNat
    rw [kindField_of_kindOfCode hc.kind, hi16] at hrange
    simp only [hc.kind, hc.nextMode, hc.notify, hc.locked, reduceCtorEq, false_iff]
      at hkind hmode hnotify hlocked
    rw [readDescRecord_of_codes hc, ite_eq_left_iff, hi16, hrange]
    simp only [reduceCtorEq, imp_false, Classical.not_not]
    omega
  · rw [hkind, hmode, hnotify, hlocked] at hcode
    simp only [hnone, true_iff]
    omega

theorem recordDesc_stores {ws : List Word} {kind : Kind} {nextMode : NextMode} {notify : Notify}
    {locked : Bool} (hc : RecordCodes ws kind nextMode notify locked) (hp : field (ws.getD 0 0) 16 8 < 8) :
    Stores ws (recordDesc ws kind nextMode notify locked) := by
  have hphases : (BitVec.ofNat 3 (field (ws.getD 0 0) 16 8)).toNat = field (ws.getD 0 0) 16 8 :=
    Nat.mod_eq_of_lt hp
  refine ⟨kindField_of_kindOfCode hc.kind, hphases, rfl, rfl, nextModeField_of_nextModeOfCode hc.nextMode,
    notifyField_of_notifyOfCode hc.notify, yes_of_lockedOfCode hc.locked, rfl, rfl, rfl, rfl, ?_⟩
  cases kind <;> exact ⟨rfl, rfl, rfl, rfl, rfl, rfl, rfl⟩

/-- A record that is not refused is read as the descriptor it stores. -/
theorem readDescRecord_stores {ws : List Word} (h : ¬DescRefused ws) :
    ∃ d, readDescRecord ws = some d ∧ Stores ws d := by
  rcases recordCodes_or_readDescRecord_none ws with ⟨kind, nextMode, notify, locked, hc⟩ | ⟨hnone, -⟩
  · have hread := readDescRecord_of_codes hc
    rw [if_neg] at hread
    · refine ⟨_, hread, recordDesc_stores hc ?_⟩
      simp only [DescRefused] at h
      omega
    · intro hbad
      rw [if_pos hbad, readDescRecord_eq_none_iff] at hread
      exact h hread
  · exact absurd ((readDescRecord_eq_none_iff ws).1 hnone) h

/-! ### A descriptor and its record (R29) -/

theorem ofNat3_toNat_mod (phases : BitVec 3) : BitVec.ofNat 3 (phases.toNat % 256) = phases := by
  apply BitVec.eq_of_toNat_eq
  rw [BitVec.toNat_ofNat]
  omega

/-- The codes of the record built from a descriptor are the descriptor's. -/
theorem recordCodes_descRecord (d : Desc) :
    RecordCodes (descRecord d) d.kind d.nextMode d.notify d.locked := by
  obtain ⟨hkind, -⟩ := field_of_bytes (kindCode d.kind) d.phases.toNat (byteOfInt d.next) d.repeats
  obtain ⟨hmode, hnotify, hlocked, -⟩ :=
    field_of_bytes (nextModeCode d.nextMode) (notifyCode d.notify) (boolCode d.locked) d.order
  constructor <;> simp only [descRecord, List.getD_cons_zero, List.getD_cons_succ]
  · rw [hkind, kindOfCode_kindCode]
  · rw [hmode, nextModeOfCode_nextModeCode]
  · rw [hnotify, notifyOfCode_notifyCode]
  · rw [hlocked, lockedOfCode_boolCode]

/-- A descriptor with its fields in the ranges of its kind and 0 in the fields absent for it (R18). -/
structure DescInRange (d : Desc) : Prop where
  phases : d.phases ≠ 0
  alpha : d.alpha < 65536
  beta : d.beta < 65536
  hold : d.hold < 65536
  rampIn : d.rampIn < 65536
  rampOut : d.rampOut < 65536
  level : d.level < 65536
  phi : d.phi < 65536
  gap : d.gap < 65536
  repeats : d.repeats < 256
  nextLow : -128 ≤ d.next
  nextHigh : d.next ≤ 127
  flicker : d.kind = .flicker →
    d.rampIn = 0 ∧ d.rampOut = 0 ∧ d.level ≤ 32767 ∧ 1 ≤ d.half ∧ d.half ≤ 16777215
  noHalf : d.kind ≠ .flicker → d.half = 0
  noLevel : d.kind = .openCircuit → d.level = 0
  harmonic : d.kind = .harmonic → 2 ≤ d.order ∧ d.order ≤ 50
  noOrder : d.kind ≠ .harmonic → d.order = 0
  tone : d.kind = .tone → 1 ≤ d.freq ∧ d.freq ≤ 2147483647
  noFreq : d.kind ≠ .tone → d.freq = 0
  noPhi : d.kind ≠ .harmonic → d.kind ≠ .tone → d.phi = 0

namespace DescInRange

variable {d : Desc} (h : DescInRange d)
include h

theorem order_lt : d.order < 256 := by
  by_cases hk : d.kind = .harmonic
  · have := h.harmonic hk; omega
  · have := h.noOrder hk; omega

theorem freq_lt : d.freq < 4294967296 := by
  by_cases hk : d.kind = .tone
  · have := h.tone hk; omega
  · have := h.noFreq hk; omega

theorem half_lt : d.half < 4294967296 := by
  by_cases hk : d.kind = .flicker
  · have := h.flicker hk; omega
  · have := h.noHalf hk; omega

theorem kindFields : kindFieldsInRange d.kind d.level d.order d.freq d.half = true := by
  cases hk : d.kind with
  | level => rfl
  | openCircuit => rfl
  | harmonic => simpa [kindFieldsInRange] using h.harmonic hk
  | tone => simpa [kindFieldsInRange] using h.tone hk
  | flicker =>
    obtain ⟨-, -, hlevel, hhalf⟩ := h.flicker hk
    simpa [kindFieldsInRange, and_assoc] using ⟨hlevel, hhalf⟩

/-- A field absent for the kind holds 0 already. -/
theorem kept :
    keptIf (hasRamps d.kind) d.rampIn = d.rampIn ∧ keptIf (hasRamps d.kind) d.rampOut = d.rampOut ∧
      keptIf (hasLevel d.kind) d.level = d.level ∧ keptIf (hasPhi d.kind) d.phi = d.phi ∧
      keptIf (d.kind == .harmonic) d.order = d.order ∧ keptIf (d.kind == .tone) d.freq = d.freq ∧
      keptIf (d.kind == .flicker) d.half = d.half := by
  have hflicker := h.flicker
  have hhalf := h.noHalf
  have hlevel := h.noLevel
  have horder := h.noOrder
  have hfreq := h.noFreq
  have hphi := h.noPhi
  cases hk : d.kind <;> simp_all [keptIf, hasRamps, hasLevel, hasPhi]

/-- The words of the record hold the fields as they are. -/
theorem recordDesc_descRecord : recordDesc (descRecord d) d.kind d.nextMode d.notify d.locked = d := by
  obtain ⟨-, hphases, -, hrepeats⟩ :=
    field_of_bytes (kindCode d.kind) d.phases.toNat (byteOfInt d.next) d.repeats
  obtain ⟨-, -, -, horder⟩ :=
    field_of_bytes (nextModeCode d.nextMode) (notifyCode d.notify) (boolCode d.locked) d.order
  obtain ⟨krampIn, krampOut, klevel, kphi, korder, kfreq, khalf⟩ := h.kept
  simp only [recordDesc, descRecord, List.getD_cons_zero, List.getD_cons_succ, hphases, hrepeats, horder,
    hi16_halves, lo16_halves, number, BitVec.toNat_ofNat, ofNat3_toNat_mod,
    signedByte_bytes_next _ _ _ _ h.nextLow h.nextHigh, Nat.reducePow, Nat.mod_eq_of_lt h.alpha,
    Nat.mod_eq_of_lt h.beta, Nat.mod_eq_of_lt h.hold, Nat.mod_eq_of_lt h.gap, Nat.mod_eq_of_lt h.rampIn,
    Nat.mod_eq_of_lt h.rampOut, Nat.mod_eq_of_lt h.level, Nat.mod_eq_of_lt h.phi,
    Nat.mod_eq_of_lt h.repeats, Nat.mod_eq_of_lt h.order_lt, Nat.mod_eq_of_lt h.freq_lt,
    Nat.mod_eq_of_lt h.half_lt, krampIn, krampOut, klevel, kphi, korder, kfreq, khalf]

theorem readDescRecord_descRecord : readDescRecord (descRecord d) = some d := by
  obtain ⟨-, hphases, -, -⟩ :=
    field_of_bytes (kindCode d.kind) d.phases.toNat (byteOfInt d.next) d.repeats
  obtain ⟨-, -, -, horder⟩ :=
    field_of_bytes (nextModeCode d.nextMode) (notifyCode d.notify) (boolCode d.locked) d.order
  have hpos : d.phases.toNat ≠ 0 := fun hz => h.phases (BitVec.eq_of_toNat_eq hz)
  rw [readDescRecord_of_codes (recordCodes_descRecord d), h.recordDesc_descRecord, if_neg]
  simp only [descRecord, List.getD_cons_zero, List.getD_cons_succ, hphases, horder, hi16_halves, number,
    BitVec.toNat_ofNat, Nat.reducePow, Nat.mod_eq_of_lt h.level, Nat.mod_eq_of_lt h.order_lt,
    Nat.mod_eq_of_lt h.freq_lt, Nat.mod_eq_of_lt h.half_lt, h.kindFields, Bool.true_eq_false,
    or_false]
  omega

end DescInRange

/-- Settles O54: every descriptor in range is read back through its codes and its words. -/
theorem descriptorRecordReadsBack : Obligations.DescriptorRecordReadsBack := by
  refine ⟨fun ws _ => readDescRecord_eq_none_iff ws, ?_⟩
  intro d phases alpha beta hold rampIn rampOut level phi gap repeats nextLow nextHigh flicker noHalf
    noLevel harmonic noOrder tone noFreq noPhi
  have h : DescInRange d := by constructor <;> assumption
  exact ⟨h.readDescRecord_descRecord, descRecord_eq d⟩

/-! ### Locked entries (R25, R28) -/

theorem schedulerRuns_iff (st : SchedState) :
    schedulerRuns st = true ↔ st = .running ∨ st = .stepping := by
  cases st <;> simp [schedulerRuns]

theorem isProtected_iff (s : State) (i : Nat) :
    isProtected s i = true ↔
      (s.sch.state = .running ∨ s.sch.state = .stepping) ∧
        ∃ d, tableGet s.edt i = some d ∧ d.locked = true := by
  unfold isProtected
  cases tableGet s.edt i <;> simp [schedulerRuns_iff]

/-! ### WRITE_DESC and ERASE_DESC (R26, R30) -/

theorem arriveWriteDesc_bad_index {w : Word} (record : List Word) (s : State) (hw : 255 < w.toNat) :
    arriveWriteDesc (w :: record) s = (.badIndex, s) :=
  if_pos hw

theorem arriveWriteDesc_protected {w : Word} (record : List Word) {s : State} (hw : w.toNat ≤ 255)
    (hp : isProtected s w.toNat = true) :
    arriveWriteDesc (w :: record) s = (.protect, setFlag .protect s) :=
  (if_neg (Nat.not_lt.2 hw)).trans (if_pos hp)

theorem arriveWriteDesc_open {w : Word} (record : List Word) {s : State} (hw : w.toNat ≤ 255)
    (hp : ¬isProtected s w.toNat = true) :
    arriveWriteDesc (w :: record) s =
      match readDescRecord record with
      | some d => (.ok, s.withEdt (tableSet s.edt w.toNat d))
      | none => (.badField, s) :=
  ((if_neg (Nat.not_lt.2 hw)).trans (if_neg hp)).trans rfl

theorem arriveEraseDesc_bad_index {w : Word} (s : State) (hw : 255 < w.toNat) :
    arriveEraseDesc [w] s = (.badIndex, s) :=
  if_pos hw

theorem arriveEraseDesc_protected {w : Word} {s : State} (hw : w.toNat ≤ 255)
    (hp : isProtected s w.toNat = true) : arriveEraseDesc [w] s = (.protect, setFlag .protect s) :=
  (if_neg (Nat.not_lt.2 hw)).trans (if_pos hp)

theorem arriveEraseDesc_open {w : Word} {s : State} (hw : w.toNat ≤ 255)
    (hp : ¬isProtected s w.toNat = true) :
    arriveEraseDesc [w] s = (.ok, s.withEdt (tableErase s.edt w.toNat)) :=
  (if_neg (Nat.not_lt.2 hw)).trans (if_neg hp)

theorem exec_writeDesc {tag : Tag} {w : Word} {record : List Word} {s t : State} {st : Status}
    (hl : record.length = 8) (ht : Takes ⟨codeWriteDesc, tag, w :: record⟩ s)
    (ha : arriveWriteDesc (w :: record) s = (st, t)) :
    exec (.writeDesc tag (w :: record)) s = .next (answered ⟨codeWriteDesc, tag, w :: record⟩ st [] t) := by
  refine exec_of_fixed rfl ht ?_
  rw [commandArrives_writeDesc tag w record s hl, ha, plain]

theorem exec_eraseDesc {tag : Tag} {w : Word} {s t : State} {st : Status}
    (ht : Takes ⟨codeEraseDesc, tag, [w]⟩ s) (ha : arriveEraseDesc [w] s = (st, t)) :
    exec (.eraseDesc tag [w]) s = .next (answered ⟨codeEraseDesc, tag, [w]⟩ st [] t) := by
  refine exec_of_fixed rfl ht ?_
  rw [commandArrives_eraseDesc, ha, plain]

/-- Settles O52: the tests of R26 in order, then the record as the descriptor it stores. -/
theorem writeDescStoresTheRecord : Obligations.WriteDescStoresTheRecord := by
  intro tag w record s hl ht
  refine ⟨fun hw => exec_writeDesc hl ht (arriveWriteDesc_bad_index record s hw), fun hw => ⟨?_, ?_⟩⟩
  · intro hp
    exact exec_writeDesc hl ht (arriveWriteDesc_protected record hw ((isProtected_iff s _).2 hp))
  · intro hp
    have hopen := arriveWriteDesc_open record hw (mt (isProtected_iff s _).1 hp)
    constructor
    · intro hbad
      rw [(readDescRecord_eq_none_iff record).2 hbad] at hopen
      exact exec_writeDesc hl ht hopen
    · intro hgood
      obtain ⟨d, hread, hstores⟩ := readDescRecord_stores hgood
      rw [hread] at hopen
      exact ⟨s.withEdt (tableSet s.edt w.toNat d), d, hstores, exec_writeDesc hl ht hopen, rfl,
        fun hwf k => tableGet_set s.edt w.toNat k d ((tableWf_iff 256 s.edt).1 hwf).1⟩

/-- Settles O53: the tests of R30 in order, then the entry without content. -/
theorem eraseDescEmptiesTheEntry : Obligations.EraseDescEmptiesTheEntry := by
  intro tag w s ht
  refine ⟨fun hw => exec_eraseDesc ht (arriveEraseDesc_bad_index s hw), fun hw => ⟨?_, ?_⟩⟩
  · intro hp
    exact exec_eraseDesc ht (arriveEraseDesc_protected hw ((isProtected_iff s _).2 hp))
  · intro hp
    have hopen := arriveEraseDesc_open hw (mt (isProtected_iff s _).1 hp)
    exact ⟨s.withEdt (tableErase s.edt w.toNat), exec_eraseDesc ht hopen, rfl,
      fun k => tableGet_erase s.edt w.toNat k⟩

end Sys2Proof.EventDescriptors

namespace Sys2Proof.EventDescriptors

open Sys2Proof.Machine Sys2Proof.Safety

/-! ### Operations that write neither table -/

/-- Descriptor Table and Cycle Ring are the same. -/
structure SameTables (s t : State) : Prop where
  edt : t.edt = s.edt
  ring : t.ring = s.ring

namespace SameTables

theorem refl (s : State) : SameTables s s := ⟨rfl, rfl⟩

theorem trans {s t u : State} (h : SameTables s t) (k : SameTables t u) : SameTables s u :=
  ⟨k.edt.trans h.edt, k.ring.trans h.ring⟩

theorem ofReports {s t : State} (h : ReportsOnly s t) : SameTables s t := ⟨h.edt, h.ring⟩

theorem ofStop {s t : State} (h : StopOnly s t) : SameTables s t := ⟨h.edt, h.ring⟩

theorem canonical {s t : State} (h : SameTables s t) (hs : TablesCanonical s) : TablesCanonical t := by
  unfold TablesCanonical
  rw [h.edt, h.ring]
  exact hs

end SameTables

/-! ### Setters -/

theorem withAnt_sameTables (s : State) (x : Ant) : SameTables s (s.withAnt x) := ⟨rfl, rfl⟩
theorem withSch_sameTables (s : State) (x : Sch) : SameTables s (s.withSch x) := ⟨rfl, rfl⟩
theorem withCx_sameTables (s : State) (x : Cx) : SameTables s (s.withCx x) := ⟨rfl, rfl⟩
theorem withSau_sameTables (s : State) (x : Sau) : SameTables s (s.withSau x) := ⟨rfl, rfl⟩
theorem withLmu_sameTables (s : State) (x : Lmu) : SameTables s (s.withLmu x) := ⟨rfl, rfl⟩
theorem withMku_sameTables (s : State) (x : Mku) : SameTables s (s.withMku x) := ⟨rfl, rfl⟩
theorem withDsr_sameTables (s : State) (x : Dsr) : SameTables s (s.withDsr x) := ⟨rfl, rfl⟩
theorem withUp_sameTables (s : State) (x : Up) : SameTables s (s.withUp x) := ⟨rfl, rfl⟩
theorem withCmx_sameTables (s : State) (x : Cmx) : SameTables s (s.withCmx x) := ⟨rfl, rfl⟩
theorem withRpq_sameTables (s : State) (x : Rpq) : SameTables s (s.withRpq x) := ⟨rfl, rfl⟩
theorem withPar_sameTables (s : State) (x : Params) : SameTables s (s.withPar x) := ⟨rfl, rfl⟩
theorem withPending_sameTables (s : State) (x : List Instr) : SameTables s (s.withPending x) := ⟨rfl, rfl⟩

/-! ### Markers, contexts, armings -/

theorem fireIfHit_sameTables (hit : MarkerCond → Bool) (k : Nat) (s : State) :
    SameTables s (fireIfHit hit k s) := by
  unfold fireIfHit; split
  · exact .ofStop (fire_stop k s)
  · exact .refl s

theorem fireMarkers_sameTables (hit : MarkerCond → Bool) (s : State) : SameTables s (fireMarkers hit s) :=
  .ofStop (fireMarkers_stop hit s)

theorem raiseIf_sameTables (c : Bool) (n : Notice) (s : State) : SameTables s (raiseIf c n s) :=
  .ofReports (raiseIf_only c n s)

theorem setFlagIf_sameTables (c : Bool) (f : Flag) (s : State) : SameTables s (setFlagIf c f s) :=
  .ofReports (setFlagIf_only c f s)

theorem fireWithNotice_sameTables (hit : MarkerCond → Bool) (place : Nat) (n : Notice) (s : State) :
    SameTables s (fireWithNotice hit place n s) := by
  have h : ∀ k t, SameTables t (fireIfHit hit k (raiseIf (place == k) n t)) :=
    fun k t => (raiseIf_sameTables _ n t).trans (fireIfHit_sameTables hit k _)
  exact ((((h 0 s).trans (h 1 _)).trans (h 2 _)).trans (h 3 _)).trans (raiseIf_sameTables _ _ _)

theorem noticeAndFire_sameTables (c : Bool) (n : Notice) (hit : MarkerCond → Bool) (s : State) :
    SameTables s (noticeAndFire c n hit s) := by
  unfold noticeAndFire; split
  · exact (SameTables.ofReports (choose_only 5 s)).trans (fireWithNotice_sameTables _ _ _ _)
  · exact (raiseIf_sameTables _ _ _).trans (fireMarkers_sameTables _ _)

theorem contextEnds_sameTables (c : Ctx) (aborted : Bool) (s : State) :
    SameTables s (contextEnds c aborted s) := by
  unfold contextEnds
  dsimp only
  split
  · exact (withCx_sameTables s _).trans (raiseIf_sameTables _ _ _)
  · exact (withCx_sameTables s _).trans (noticeAndFire_sameTables _ _ _ _)

theorem lifeStartsNow_sameTables (i : Nat) (late : Bool) (s : State) :
    SameTables s (lifeStartsNow i late s) := by
  unfold lifeStartsNow; split
  · exact .refl s
  · exact noticeAndFire_sameTables _ _ _ _

theorem lifeEndsNow_sameTables (i : Nat) (s : State) : SameTables s (lifeEndsNow i s).1 := by
  unfold lifeEndsNow; split
  · exact .refl s
  · split
    · exact withCx_sameTables _ _
    · exact contextEnds_sameTables _ _ _

theorem reportFault_sameTables (c : FaultCause) (s : State) : SameTables s (reportFault c s) := by
  unfold reportFault
  exact (withSch_sameTables s _).trans (.ofReports (raise_only _ _))

theorem consistencyFault_sameTables (c : FaultCause) (s : State) : SameTables s (consistencyFault c s) := by
  unfold consistencyFault
  exact (withSch_sameTables s _).trans (reportFault_sameTables _ _)

theorem offerEntry_sameTables (source : ArmSource) (r : State × ArmCount) (i : Nat) :
    SameTables r.1 (offerEntry source r i).1 := by
  unfold offerEntry skipEntry armEntry; split
  · exact .ofReports ((setFlag_only _ _).trans (raise_only _ _))
  · split
    · exact withCx_sameTables _ _
    · exact .refl _

theorem offerEntries_sameTables (source : ArmSource) (l : List Nat) (s : State) :
    SameTables s (offerEntries source l s).1 := by
  have h : ∀ (l : List Nat) (r : State × ArmCount), SameTables r.1 (l.foldl (offerEntry source) r).1 := by
    intro l
    induction l with
    | nil => exact fun r => .refl _
    | cons i l ih => exact fun r => (offerEntry_sameTables source r i).trans (ih _)
  exact h l (s, ArmCount.zero)

theorem armChain_sameTables (source : ArmSource) (head : Nat) (s : State) :
    SameTables s (armChain source head s) := by
  unfold armChain; split
  · exact offerEntries_sameTables _ _ _
  · exact consistencyFault_sameTables _ _
  · exact consistencyFault_sameTables _ _

theorem armAfterLink_sameTables (head : Nat) (s : State) : SameTables s (armAfterLink head s) := by
  unfold armAfterLink; split
  · exact .refl s
  · exact armChain_sameTables _ _ _

theorem syncAtScheduler_sameTables (s : State) : SameTables s (syncAtScheduler s) := by
  unfold syncAtScheduler; split
  · split
    · exact armChain_sameTables _ _ _
    · exact .refl s
  · split
    · exact armChain_sameTables _ _ _
    · exact .refl s
  · exact .ofReports (setFlag_only _ _)
  · exact .ofReports (setFlag_only _ _)

theorem takeEdge_sameTables (s : State) : SameTables s (takeEdge s) := by
  unfold takeEdge
  dsimp only
  split
  · exact (withMku_sameTables s _).trans
      ((syncAtScheduler_sameTables _).trans (fireMarkers_sameTables hitSync _))
  · exact withMku_sameTables s _

/-! ### The ring read (R38) -/

theorem takeFrom_sameTables (f : FrameInfo) (n : Nat) (s : State) : SameTables s (takeFrom f n s).1 :=
  (withCx_sameTables s _).trans (setFlagIf_sameTables _ _ _)

theorem startNowOrLater_sameTables (items : List Item) (s : State) :
    SameTables s (startNowOrLater items s).1 := by
  unfold startNowOrLater; split
  · split
    · exact (SameTables.ofReports (chooseFirst_only s)).trans (lifeStartsNow_sameTables _ _ _)
    · exact .ofReports (chooseFirst_only s)
  · exact .refl s

theorem offerRingEntry_sameTables (f : FrameInfo) (r : State × List Item) (i : Nat) :
    SameTables r.1 (offerRingEntry f r i).1 :=
  ((offerEntry_sameTables .ring (r.1, ArmCount.zero) i).trans (takeFrom_sameTables f _ _)).trans
    (startNowOrLater_sameTables _ _)

theorem offerRingFold_sameTables (f : FrameInfo) (l : List Nat) (r : State × List Item) :
    SameTables r.1 (l.foldl (offerRingEntry f) r).1 := by
  induction l generalizing r with
  | nil => exact .refl _
  | cons i l ih => exact (offerRingEntry_sameTables f r i).trans (ih _)

theorem armRing_sameTables (f : FrameInfo) (head : Nat) (s : State) :
    SameTables s (armRing f head s).1 := by
  unfold armRing; split
  · exact offerRingFold_sameTables f _ (s, [])
  · exact consistencyFault_sameTables _ _
  · exact consistencyFault_sameTables _ _

/-- The ring read empties a ONCE slot and writes no table otherwise. -/
theorem emptyOnce_canonical (cycle : Nat) (slot : Slot) (s : State) (h : TablesCanonical s) :
    TablesCanonical (emptyOnce cycle slot s) := by
  obtain ⟨hedt, hring⟩ := h
  unfold emptyOnce; split
  · exact ⟨hedt, tableWf_erase 512 s.ring _ hring⟩
  · exact ⟨hedt, hring⟩

theorem ringReadNow_canonical (f : FrameInfo) (s : State) (h : TablesCanonical s) :
    TablesCanonical (ringReadNow f s).1 := by
  unfold ringReadNow; split
  · split
    · exact h
    · exact (armRing_sameTables f _ _).canonical (emptyOnce_canonical _ _ s h)
  · exact h

/-! ### The work of a frame -/

theorem doItem_canonical (f : FrameInfo) (it : Item) (s : State) (h : TablesCanonical s) :
    TablesCanonical (doItem f it s).1 := by
  cases it with
  | ringRead => exact ringReadNow_canonical f s h
  | cycleMarks => exact (fireMarkers_sameTables _ s).canonical h
  | lifeStarts i late => exact (lifeStartsNow_sameTables i late s).canonical h
  | lifeEnds i => exact (lifeEndsNow_sameTables i s).canonical h
  | afterLink head => exact (armAfterLink_sameTables head s).canonical h
  | limits l => exact (SameTables.ofReports (limitFlags_only l s)).canonical h
  | clipMarks c => exact (fireMarkers_sameTables _ s).canonical h

theorem choose_canonical (n : Nat) (s : State) (h : TablesCanonical s) : TablesCanonical (choose n s).2 :=
  (SameTables.ofReports (choose_only n s)).canonical h

theorem runAll_canonical (f : FrameInfo) (items : List Item) (s : State) (h : TablesCanonical s) :
    TablesCanonical (runAll f items s) :=
  runItems_keeps TablesCanonical f choose_canonical (doItem_canonical f) _ items s h

theorem applyPendingBase_sameTables (s : State) : SameTables s (applyPendingBase s) := by
  unfold applyPendingBase; split
  · exact withSch_sameTables s _
  · exact .refl s

theorem contextsTake_sameTables (f : FrameInfo) (n : Nat) (s : State) : SameTables s (contextsTake f n s) :=
  (withCx_sameTables s _).trans (setFlagIf_sameTables _ _ _)

theorem muteTakes_sameTables (s : State) : SameTables s (muteTakes s) :=
  withLmu_sameTables s _

theorem framePrep_sameTables (f : FrameInfo) (n : Nat) (s : State) : SameTables s (framePrep f n s) := by
  unfold framePrep
  refine SameTables.trans ?_ ((contextsTake_sameTables f n _).trans (muteTakes_sameTables _))
  split
  · exact applyPendingBase_sameTables s
  · exact .refl s

theorem frameCore_sameTables (f : FrameInfo) (n : Nat) (s : State) : SameTables s (frameCore f n s) := by
  unfold frameCore saturationFlags
  exact ((framePrep_sameTables f n s).trans ((setFlagIf_sameTables _ _ _).trans
    (setFlagIf_sameTables _ _ _))).trans (withLmu_sameTables _ _)

theorem endStepIf_sameTables (c : Bool) (s : State) : SameTables s (endStepIf c s) := by
  unfold endStepIf; split
  · exact withSch_sameTables s _
  · exact .refl s

theorem sendOutput_sameTables (p : Presented) (theta : Nat) (opens : PerPhase Bool) (s : State) :
    SameTables s (sendOutput p theta opens s) :=
  withDsr_sameTables s _

theorem frameWork_canonical (p : Presented) (f : FrameInfo) (n : Nat) (s : State) (h : TablesCanonical s) :
    TablesCanonical (frameWork p f n s) :=
  ((endStepIf_sameTables _ _).trans (sendOutput_sameTables p _ _ _)).canonical
    (runAll_canonical f _ _ ((frameCore_sameTables f n s).canonical h))

theorem trackFrame_sameTables (p : Shown) (s : State) : SameTables s (trackFrame p s).2 :=
  (withAnt_sameTables s _).trans (setFlagIf_sameTables _ _ _)

/-! ### Commands -/

theorem arriveWriteDesc_canonical (payload : List Word) (s : State) (h : TablesCanonical s) :
    TablesCanonical (arriveWriteDesc payload s).2 := by
  unfold arriveWriteDesc
  dsimp only
  split
  · exact h
  · next hindex =>
    split
    · exact h
    · split
      · exact ⟨tableWf_set 256 s.edt _ _ (by omega) h.1, h.2⟩
      · exact h

theorem arriveEraseDesc_canonical (payload : List Word) (s : State) (h : TablesCanonical s) :
    TablesCanonical (arriveEraseDesc payload s).2 := by
  unfold arriveEraseDesc
  dsimp only
  split
  · exact h
  · split
    · exact h
    · exact ⟨tableWf_erase 256 s.edt _ h.1, h.2⟩

theorem readSlotRecords_length {ws : List Word} {records : List (Option Slot)}
    (h : readSlotRecords ws = some records) : records.length = ws.length := by
  induction ws generalizing records with
  | nil => cases h; rfl
  | cons w rest ih =>
    unfold readSlotRecords at h
    split at h
    · next hrest => cases h; simp only [List.length_cons, ih hrest]
    · cases h

theorem tableWf_putSlots (records : List (Option Slot)) (ring : List (Nat × Slot)) (first : Nat)
    (hroom : first + records.length ≤ 512) (h : tableWf 512 ring = true) :
    tableWf 512 (putSlots ring first records) = true := by
  induction records generalizing ring first with
  | nil => exact h
  | cons r rest ih =>
    simp only [List.length_cons] at hroom
    exact ih _ _ (by omega) (tableWf_put 512 ring first r (by omega) h)

/-- The records of WRITE_SLOTS fit where the length check and the index test have passed. -/
theorem arriveWriteSlots_canonical (payload : List Word) (s : State)
    (hlen : payload.length = 1 + lo16 (payload.getD 0 0)) (h : TablesCanonical s) :
    TablesCanonical (arriveWriteSlots payload s).2 := by
  unfold arriveWriteSlots
  dsimp only
  split
  · next hrange =>
    split
    · next records hread =>
      have hcount := readSlotRecords_length hread
      simp only [slotRangeOk, Bool.and_eq_true, decide_eq_true_eq] at hrange
      rw [List.length_drop] at hcount
      exact ⟨h.1, tableWf_putSlots records s.ring _ (by omega) h.2⟩
    · exact h
  · exact h

theorem writeNumber_sameTables (i v : Nat) (s : State) : SameTables s (writeNumber i v s) := by
  unfold writeNumber writePlanBase writeFoldFloor
  repeat' split
  all_goals exact ⟨rfl, rfl⟩

theorem writeSyncOffset_sameTables (w : Word) (s : State) : SameTables s (writeSyncOffset w s).2 := by
  unfold writeSyncOffset
  split <;> exact ⟨rfl, rfl⟩

theorem writeTripAction_sameTables (a : TripAction) (s : State) : SameTables s (writeTripAction a s) := by
  unfold writeTripAction
  split <;> exact ⟨rfl, rfl⟩

theorem setParamTo_sameTables (i : Nat) (w : Word) (s : State) : SameTables s (setParamTo i w s).2 := by
  unfold setParamTo
  split
  · exact .refl s
  split
  · split
    · exact writeTripAction_sameTables _ s
    · exact .refl s
  split
  · split
    · exact withPar_sameTables s _
    · exact .refl s
  split
  · exact writeSyncOffset_sameTables w s
  split
  · split
    · exact .refl s
    · exact withPar_sameTables s _
  split
  · exact writeNumber_sameTables i _ s
  · exact .refl s

theorem arriveTakeFlags_sameTables (payload : List Word) (s : State) :
    SameTables s (arriveTakeFlags payload s).2 := by
  unfold arriveTakeFlags
  dsimp only
  split <;> exact ⟨rfl, rfl⟩

theorem arriveResetEngine_sameTables (s : State) : SameTables s (arriveResetEngine s).2 := by
  unfold arriveResetEngine
  split <;> exact ⟨rfl, rfl⟩

theorem arriveRun_sameTables (s : State) : SameTables s (arriveRun s).2 := by
  unfold arriveRun
  split <;> exact ⟨rfl, rfl⟩

theorem arriveStep_sameTables (s : State) : SameTables s (arriveStep s).2 := by
  unfold arriveStep
  split <;> exact ⟨rfl, rfl⟩

theorem arriveHalt_sameTables (s : State) : SameTables s (arriveHalt s).2 := by
  unfold arriveHalt
  split <;> exact ⟨rfl, rfl⟩

theorem arriveAbort_sameTables (s : State) : SameTables s (arriveAbort s).2 := by
  unfold arriveAbort
  split
  · exact .refl s
  · exact ((withSch_sameTables s _).trans (withCx_sameTables _ _)).trans (.ofReports (raiseAll_only _ _))

theorem arriveSetCycle_sameTables (payload : List Word) (s : State) :
    SameTables s (arriveSetCycle payload s).2 := by
  unfold arriveSetCycle
  split <;> exact ⟨rfl, rfl⟩

theorem arriveClearFault_sameTables (s : State) : SameTables s (arriveClearFault s).2 := by
  unfold arriveClearFault
  split
  · split <;> exact ⟨rfl, rfl⟩
  · exact withSch_sameTables s _

theorem arriveSetMarker_sameTables (payload : List Word) (s : State) :
    SameTables s (arriveSetMarker payload s).2 := by
  unfold arriveSetMarker
  dsimp only
  split
  · exact .refl s
  · split
    · exact .refl s
    · exact withMku_sameTables s _

theorem arriveArm_sameTables (payload : List Word) (s : State) :
    SameTables s (arriveArm payload s).2.2 := by
  unfold arriveArm
  dsimp only
  split
  · exact .refl s
  split
  · exact .refl s
  split
  · exact .refl s
  · exact .refl s
  · exact offerEntries_sameTables _ _ s

/-- One arm of a command's own rule. -/
theorem arm_canonical {c : Prop} [Decidable c] {r q : Answer × State} (hr : c → TablesCanonical r.2)
    (hq : TablesCanonical q.2) : TablesCanonical (if c then r else q).2 := by
  split
  · next hc => exact hr hc
  · exact hq

/-- The commands that write a table keep it canonical, and the others write none. -/
theorem ownRule_canonical (c : Cmd) (s : State)
    (hlen : c.code = codeWriteSlots → c.payload.length = 1 + lo16 (c.payload.getD 0 0))
    (h : TablesCanonical s) : TablesCanonical (ownRule c s).2 := by
  unfold ownRule
  refine arm_canonical (fun _ => h) ?_
  refine arm_canonical (fun _ => h) ?_
  refine arm_canonical (fun _ => (arriveTakeFlags_sameTables _ s).canonical h) ?_
  refine arm_canonical (fun _ => h) ?_
  refine arm_canonical (fun _ => (setParamTo_sameTables _ _ s).canonical h) ?_
  refine arm_canonical (fun _ => (arriveResetEngine_sameTables s).canonical h) ?_
  refine arm_canonical (fun _ => arriveWriteDesc_canonical _ s h) ?_
  refine arm_canonical (fun _ => h) ?_
  refine arm_canonical (fun _ => arriveEraseDesc_canonical _ s h) ?_
  refine arm_canonical (fun hslots => arriveWriteSlots_canonical _ s (hlen hslots) h) ?_
  refine arm_canonical (fun _ => h) ?_
  refine arm_canonical (fun _ => (arriveRun_sameTables s).canonical h) ?_
  refine arm_canonical (fun _ => (arriveStep_sameTables s).canonical h) ?_
  refine arm_canonical (fun _ => (arriveHalt_sameTables s).canonical h) ?_
  refine arm_canonical (fun _ => (arriveAbort_sameTables s).canonical h) ?_
  refine arm_canonical (fun _ => (arriveSetCycle_sameTables _ s).canonical h) ?_
  refine arm_canonical (fun _ => (arriveArm_sameTables _ s).canonical h) ?_
  refine arm_canonical (fun _ => (arriveClearFault_sameTables s).canonical h) ?_
  refine arm_canonical (fun _ => h) ?_
  refine arm_canonical (fun _ => (arriveSetMarker_sameTables _ s).canonical h) ?_
  exact arm_canonical (fun _ => h) h

/-- The length check of WRITE_SLOTS ties its payload to its count. -/
theorem length_of_writeSlots {payload : List Word}
    (h : requiredLength codeWriteSlots payload = some payload.length) :
    payload.length = 1 + lo16 (payload.getD 0 0) := by
  cases payload with
  | nil => cases h
  | cons w rest => exact (Option.some.inj h).symm

theorem commandArrives_canonical (c : Cmd) (s : State) (h : TablesCanonical s) :
    TablesCanonical (commandArrives c s).2 := by
  unfold commandArrives
  split
  · exact h
  · next n hreq =>
    split
    · next hlen =>
      refine ownRule_canonical c s (fun hcode => length_of_writeSlots ?_) h
      rw [← hcode, hreq, hlen]
    · exact h

theorem respond_sameTables (c : Cmd) (a : Answer) (s : State) : SameTables s (respond c a s) := by
  rw [respond_answered]
  unfold answered
  split <;> exact ⟨rfl, rfl⟩

theorem commandRow_canonical (c : Cmd) (s : State) (h : TablesCanonical s) :
    TablesCanonical (commandRow c s) := by
  have hrun : TablesCanonical (carryOut c s) :=
    (respond_sameTables c _ _).canonical (commandArrives_canonical c s h)
  unfold commandRow
  split
  · exact hrun
  · split
    · exact hrun
    · exact h
  · exact h

/-! ### A presented frame -/

theorem goodArrival_sameTables (x : Sample) (s : State) : SameTables s (goodArrival x s) := by
  unfold goodArrival
  exact (((setFlagIf_sameTables _ _ s).trans (withDsr_sameTables _ _)).trans
    (raiseIf_sameTables _ _ _)).trans (withSau_sameTables _ _)

theorem dsrArrival_sameTables (p : Presented) (s : State) : SameTables s (dsrArrival p s) := by
  cases p with
  | good x => exact goodArrival_sameTables x s
  | failing => exact (SameTables.ofReports (setFlag_only _ s)).trans (withDsr_sameTables _ _)
  | selfGenerated => exact .refl s

theorem arrival_canonical (p : Presented) (s : State) (h : TablesCanonical s) :
    TablesCanonical (arrival p s).1 := by
  unfold arrival
  split
  · next c _ =>
    have ho : TablesCanonical (if arrivalOrderOpen p c s then chooseFirst s else (true, s)).2 := by
      split
      · exact (SameTables.ofReports (chooseFirst_only s)).canonical h
      · exact h
    dsimp only
    generalize (if arrivalOrderOpen p c s then chooseFirst s else (true, s)) = o at ho ⊢
    split
    · exact commandArrives_canonical c _ ((dsrArrival_sameTables p _).canonical ho)
    · exact (dsrArrival_sameTables p _).canonical (commandArrives_canonical c _ ho)
  · exact (dsrArrival_sameTables p s).canonical h

theorem presentFrame_canonical (p : Presented) (s : State) (h : TablesCanonical s) :
    TablesCanonical (presentFrame p s) := by
  unfold presentFrame respondIfAny
  have hwork := frameWork_canonical p (trackFrame (shownAs p s) (arrival p s).1).1 s.cx.set.length _
    ((trackFrame_sameTables (shownAs p s) _).canonical (arrival_canonical p s h))
  dsimp only
  split
  · exact (respond_sameTables _ _ _).canonical hwork
  · exact hwork

/-! ### DIN, DOUT and the downstream link -/

theorem takeCommand_sameTables (s : State) : SameTables s (takeCommand s) := by
  unfold takeCommand
  split
  · exact withCmx_sameTables s _
  · exact .refl s

theorem offerCommand_sameTables (c : Cmd) (s : State) : SameTables s (offerCommand c s) := by
  unfold offerCommand
  split
  · exact (withCmx_sameTables s _).trans (takeCommand_sameTables _)
  · exact .ofReports ((setFlag_only _ s).trans (raise_only _ _))

theorem offerForward_sameTables (ws : List Word) (s : State) : SameTables s (offerForward ws s) := by
  unfold offerForward
  split
  · exact withDsr_sameTables s _
  · exact .ofReports (setFlag_only _ s)

theorem goodCommandFrame_sameTables (ws : List Word) (s : State) : SameTables s (goodCommandFrame ws s) := by
  unfold goodCommandFrame
  split
  · exact offerCommand_sameTables _ s
  · exact offerForward_sameTables ws s
  · exact .ofReports (setFlag_only _ s)

theorem dinFrame_canonical (ws : List Word) (s : State) (h : TablesCanonical s) :
    TablesCanonical (dinFrame ws s) := by
  unfold dinFrame
  split
  · split
    · exact (goodCommandFrame_sameTables ws s).canonical h
    · exact (SameTables.ofReports (setFlag_only _ s)).canonical h
  · split <;> exact presentFrame_canonical _ s h

theorem dinWord_canonical (w : Word) (s : State) (h : TablesCanonical s) :
    TablesCanonical (dinWord w s) := by
  have hword := (withDsr_sameTables s { s.dsr with din := (assemble s.dsr.din w).1 }).canonical h
  unfold dinWord
  dsimp only
  split
  · exact dinFrame_canonical _ _ hword
  · exact hword

theorem receiveDin_canonical (ws : List Word) (s : State) (h : TablesCanonical s) :
    TablesCanonical (receiveDin ws s) :=
  receiveDin_keeps TablesCanonical dinWord_canonical ws s h

theorem loseDownstream_sameTables (s : State) : SameTables s (loseDownstream s) := by
  unfold loseDownstream
  exact (((withDsr_sameTables s _).trans (.ofReports (raise_only _ _))).trans
    (.ofStop (safetyStop_only _ _))).trans (withDsr_sameTables _ _)

theorem selfFrame_canonical (s : State) (h : TablesCanonical s) : TablesCanonical (selfFrame s) :=
  presentFrame_canonical _ _ ((withDsr_sameTables s _).canonical h)

/-! ### UIN, UOUT and the upstream link -/

theorem sendUp_sameTables (ws : List Word) (s : State) : SameTables s (sendUp ws s) := by
  unfold sendUp
  split <;> exact withUp_sameTables s _

theorem passOn_sameTables (ws : List Word) (s : State) : SameTables s (passOn ws s) := by
  unfold passOn
  split
  · exact .refl s
  · exact sendUp_sameTables ws s

theorem placeHeld_sameTables (s : State) : SameTables s (placeHeld s) := by
  unfold placeHeld
  split
  · split
    · exact ((withRpq_sameTables s _).trans (withCmx_sameTables _ _)).trans (takeCommand_sameTables _)
    · exact .refl s
  · exact .refl s

theorem placeFreed_sameTables (s : State) : SameTables s (placeFreed s) := by
  have hfree := SameTables.ofReports (chooseFirst_only s)
  unfold placeFreed
  split
  · split
    · exact hfree.trans (placeHeld_sameTables _)
    · exact hfree
  · exact .refl s

theorem sendHeadReport_sameTables (s : State) : SameTables s (sendHeadReport s) := by
  unfold sendHeadReport
  split
  · exact .refl s
  · exact ((withRpq_sameTables s _).trans (sendUp_sameTables _ _)).trans (placeFreed_sameTables _)

theorem handleUin_sameTables (ws : List Word) (s : State) : SameTables s (handleUin ws s) := by
  unfold handleUin
  split
  · exact (SameTables.ofStop (watchFrame_only _ s)).trans (passOn_sameTables ws _)
  split
  · exact sendHeadReport_sameTables s
  · exact passOn_sameTables ws s

theorem goodUinFrame_sameTables (ws : List Word) (s : State) : SameTables s (goodUinFrame ws s) := by
  have hup := withUp_sameTables s (upAlive s.up)
  have hfree := hup.trans (.ofReports (chooseFirst_only _))
  unfold goodUinFrame
  dsimp only
  split
  · split
    · exact (hfree.trans (.ofReports (raise_only _ _))).trans (handleUin_sameTables ws _)
    · exact (hfree.trans (handleUin_sameTables ws _)).trans (.ofReports (raise_only _ _))
  · exact (hup.trans (raiseIf_sameTables _ _ _)).trans (handleUin_sameTables ws _)

theorem uinFrame_sameTables (ws : List Word) (s : State) : SameTables s (uinFrame ws s) := by
  unfold uinFrame
  split
  · exact goodUinFrame_sameTables ws s
  · exact (setFlagIf_sameTables _ _ s).trans (passOn_sameTables ws _)

theorem uinWord_sameTables (w : Word) (s : State) : SameTables s (uinWord w s) := by
  have hword := withUp_sameTables s { s.up with uin := (assemble s.up.uin w).1 }
  unfold uinWord
  dsimp only
  split
  · exact hword.trans (uinFrame_sameTables _ _)
  · exact hword

theorem receiveUin_canonical (ws : List Word) (s : State) (h : TablesCanonical s) :
    TablesCanonical (receiveUin ws s) :=
  receiveUin_keeps TablesCanonical (fun w t => (uinWord_sameTables w t).canonical) ws s h

theorem loseUpstream_sameTables (s : State) : SameTables s (loseUpstream s) := by
  have hfault : ∀ t, SameTables t (upstreamFault t) := by
    intro t
    unfold upstreamFault
    split
    · exact .refl t
    · exact .ofStop (safetyStop_only _ t)
    · exact .ofStop (safetyStop_only _ t)
  unfold loseUpstream
  exact (((withUp_sameTables s _).trans (.ofReports (raise_only _ _))).trans (hfault _)).trans
    (withUp_sameTables _ _)

theorem cadenceExpires_sameTables (s : State) : SameTables s (cadenceExpires s) := by
  have hup := withUp_sameTables s { s.up with cadence := some Config.cadenceTicks }
  unfold cadenceExpires
  dsimp only
  split
  · exact hup.trans (sendHeadReport_sameTables _)
  · exact hup

theorem uoutEnds_sameTables (s : State) : SameTables s (uoutEnds s) := by
  unfold uoutEnds
  split
  · exact .refl s
  · split <;> exact withUp_sameTables s _

/-! ### A tick -/

theorem sampleSync_sameTables (level : Level) (s : State) : SameTables s (sampleSync level s) := by
  unfold sampleSync countSample
  split
  · exact .refl s
  · split <;> exact withMku_sameTables s _

theorem timersTick_sameTables (s : State) : SameTables s (timersTick s) :=
  (withDsr_sameTables s _).trans (withUp_sameTables _ _)

theorem doTickPart_canonical (p : TickPart) (s : State) (h : TablesCanonical s) :
    TablesCanonical (doTickPart p s) := by
  cases p with
  | pulse => exact (withMku_sameTables s _).canonical h
  | held => exact (placeHeld_sameTables s).canonical h
  | edge => exact (takeEdge_sameTables s).canonical h
  | downLoss => exact (loseDownstream_sameTables s).canonical h
  | selfFrame => exact selfFrame_canonical s h
  | upLoss => exact (loseUpstream_sameTables s).canonical h
  | cadence => exact (cadenceExpires_sameTables s).canonical h

theorem tick_canonical (level : Level) (s : State) (h : TablesCanonical s) :
    TablesCanonical (tick level s) :=
  runTick_keeps TablesCanonical choose_canonical doTickPart_canonical _ _ _
    (((sampleSync_sameTables level s).trans (timersTick_sameTables _)).canonical h)

/-! ### Rows -/

theorem contextEvent_canonical (f : FrameInfo) (due : Ctx → Bool) (i : Nat) (s : State)
    (h : TablesCanonical s) : TablesCanonical (contextEvent f due i s) := by
  unfold contextEvent contextTakes
  split
  · exact h
  · split
    · exact runAll_canonical f _ _
        (((withCx_sameTables s _).trans (setFlagIf_sameTables _ _ _)).canonical h)
    · exact h

/-- Where an event of a row is not due, the row changes nothing (log 2). -/
theorem ite_canonical {c : Prop} [Decidable c] {s t : State} (ht : TablesCanonical t)
    (hs : TablesCanonical s) : TablesCanonical (if c then t else s) := by
  split
  · exact ht
  · exact hs

theorem reset_canonical : TablesCanonical State.reset := ⟨rfl, rfl⟩

/-- The rows that are no engine command. -/
theorem exec_event_canonical {i : Instr} {s t : State} (hc : commandOf i = none) (hs : TablesCanonical s)
    (h : exec i s = .next t) : TablesCanonical t := by
  cases i <;> cases hc <;> cases h
  case powerOnReset => exact reset_canonical
  case sampleFrame words => exact receiveDin_canonical words s hs
  case commandFrame words => exact receiveDin_canonical words s hs
  case selfGeneratedFrame => exact ite_canonical (selfFrame_canonical s hs) hs
  case downstreamLinkLoss => exact ite_canonical ((loseDownstream_sameTables s).canonical hs) hs
  case doutFrameSent => exact (withDsr_sameTables s _).canonical hs
  case measurementFrame words => exact receiveUin_canonical words s hs
  case stageReportFrame words => exact receiveUin_canonical words s hs
  case idleFrame words => exact receiveUin_canonical words s hs
  case failingUinFrame words => exact receiveUin_canonical words s hs
  case upstreamLinkLoss => exact ite_canonical ((loseUpstream_sameTables s).canonical hs) hs
  case upstreamCadenceExpiry => exact ite_canonical ((cadenceExpires_sameTables s).canonical hs) hs
  case uoutFrameSent => exact (uoutEnds_sameTables s).canonical hs
  case syncInEdge => exact ite_canonical ((takeEdge_sameTables s).canonical hs) hs
  case pulseEnd => exact ite_canonical ((withMku_sameTables s _).canonical hs) hs
  case trip p =>
    have htrip : SameTables s (tripPhase p (countOver p true s)) :=
      (SameTables.ofStop (setWatch_only p _ s)).trans (.ofStop (tripPhase_only p _))
    exact ite_canonical (htrip.canonical hs) hs
  case lateStart index => exact contextEvent_canonical _ _ index s hs
  case gapEnd index => exact contextEvent_canonical _ _ index s hs
  case rampInEnd index => exact contextEvent_canonical _ _ index s hs
  case rampOutEnd index => exact contextEvent_canonical _ _ index s hs
  case flickerHalfChange index => exact contextEvent_canonical _ _ index s hs
  case muteRampEnd => exact ite_canonical ((muteTakes_sameTables s).canonical hs) hs
  case unmuteRampEnd => exact ite_canonical ((muteTakes_sameTables s).canonical hs) hs
  case heldResponsePlaced => exact (placeHeld_sameTables s).canonical hs
  case undefinedCommandCode code tag payload => exact ite_canonical (commandRow_canonical _ s hs) hs
  case microsecondTick level => exact tick_canonical level s hs

theorem exec_canonical {i : Instr} {s t : State} (hs : TablesCanonical s) (h : exec i s = .next t) :
    TablesCanonical t := by
  cases hc : commandOf i with
  | some c =>
    rw [exec_of_commandOf s hc] at h
    cases h
    exact commandRow_canonical c s hs
  | none => exact exec_event_canonical hc hs h

/-- Settles O6: a step runs the front command on the same tables, and every command keeps their form. -/
theorem everyStepKeepsTheTablesCanonical : Obligations.EveryStepKeepsTheTablesCanonical := by
  intro s t hs h
  unfold step at h
  split at h
  · cases h
    exact hs
  · exact exec_canonical ((withPending_sameTables s _).canonical hs) h

end Sys2Proof.EventDescriptors

namespace Sys2Proof.SampleComputation

open Sys2Proof.Machine Sys2Proof.Safety

/-! ### Injected terms (R93) -/

theorem termOf_mul_le (a : Nat) (s : Int) : termOf a s * 32768 ≤ a * s + 16384 :=
  Int.ediv_mul_le _ (by decide)

theorem lt_termOf_add_one_mul (a : Nat) (s : Int) : a * s + 16384 < (termOf a s + 1) * 32768 :=
  Int.lt_ediv_add_one_mul_self _ (by decide)

/-- The product before rounding grows with the sine entry, from -32767 x A to 32767 x A. -/
theorem amplitude_mul_bounds (a : Nat) {s : Int} (hlo : -32767 ≤ s) (hhi : s ≤ 32767) :
    (a : Int) * (-32767) ≤ a * s ∧ (a : Int) * s ≤ a * 32767 :=
  ⟨Int.mul_le_mul_of_nonneg_left hlo (Int.natCast_nonneg a),
    Int.mul_le_mul_of_nonneg_left hhi (Int.natCast_nonneg a)⟩

theorem termOf_zero (s : Int) : termOf 0 s = 0 := by
  unfold termOf
  rw [show ((0 : Nat) : Int) * s = 0 from Int.zero_mul s]
  decide

/-- Settles O14: the bounds of a rounded-down quotient, and the largest product rounded. -/
theorem termIsTheRoundedProduct : Obligations.TermIsTheRoundedProduct := by
  intro a s ha hlo hhi
  have hlower := termOf_mul_le a s
  have hupper := lt_termOf_add_one_mul a s
  obtain ⟨hmin, hmax⟩ := amplitude_mul_bounds a hlo hhi
  exact ⟨hlower, hupper, by omega, by omega, termOf_zero s⟩

/-! ### Samples and limits of a phase with nothing active (R87, R88, R95, R100, R101) -/

theorem sampleOf_bounds (w : Word) : -131072 ≤ sampleOf w ∧ sampleOf w ≤ 131071 :=
  ⟨BitVec.le_toInt _, Int.le_sub_one_of_lt BitVec.toInt_lt⟩

theorem gainStep_unity : gainStep (16384, false) 16384 = (16384, false) := by
  have hproduct : gainProduct 16384 16384 = 16384 := by decide
  have htop : ¬Config.gainTop < 16384 := by decide
  simp only [gainStep, hproduct, htop, if_false]

theorem envelope_of_unity (p : Phase) : envelope [] p 16384 16384 = (16384, false) := by
  have hfactors : gainFactors [] p 16384 16384 = [16384, 16384] := rfl
  simp only [envelope, hfactors, Config.unity, List.foldl_cons, List.foldl_nil, gainStep_unity]

theorem scaledInput_unity (x : Int) : scaledInput x 16384 = x := by
  unfold scaledInput; omega

theorem saturate_of_bounds {x : Int} (hlo : -131072 ≤ x) (hhi : x ≤ 131071) : saturate x = x := by
  unfold saturate; omega

/-- With no context and unit gains the raw output is the input sample. -/
theorem rawOutput_of_unity (theta : Nat) (p : Phase) (offset : Nat) {x : Int} (hlo : -131072 ≤ x)
    (hhi : x ≤ 131071) : (rawOutput [] theta p x offset 16384 16384).y = x := by
  have hsum : injectionSum [] theta offset p = 0 := rfl
  simp only [rawOutput, envelope_of_unity, scaledInput_unity, hsum, Int.add_zero,
    saturate_of_bounds hlo hhi]

/-- No two values of the sample range and the peak limit lie further apart than the largest slew limit. -/
theorem slewStage_of_widest {x prev : Int} (hlo : -131072 ≤ x) (hhi : x ≤ 131071)
    (hprev : -131071 ≤ prev ∧ prev ≤ 131071) : slewStage x prev 262143 = x := by
  obtain ⟨hmin, hmax⟩ := hprev
  unfold slewStage
  rw [if_neg (by omega), if_neg (by omega)]

theorem peakStage_of_widest {x : Int} (hhi : x ≤ 131071) : peakStage x 131071 = max x (-131071) := by
  unfold peakStage
  rw [if_neg (by omega)]
  split <;> omega

/-! ### What the parts of a frame's work leave alone -/

theorem reportsOnly_withDsr {s t : State} (h : ReportsOnly s t) (d : Dsr) :
    ReportsOnly (s.withDsr d) (t.withDsr d) :=
  ⟨h.ant, h.edt, h.ring, h.sch, h.cx, h.sau, h.lmu, h.cw, h.mku, rfl, h.up, h.cmx, h.par, h.pending⟩

theorem reportsOnly_withSau {s t : State} (h : ReportsOnly s t) (x : Sau) :
    ReportsOnly (s.withSau x) (t.withSau x) :=
  ⟨h.ant, h.edt, h.ring, h.sch, h.cx, rfl, h.lmu, h.cw, h.mku, h.dsr, h.up, h.cmx, h.par, h.pending⟩

/-- But for reports and flags, a good frame's arrival brings the link up to date and stores the samples. -/
theorem goodArrival_only (x : Sample) (s : State) :
    ReportsOnly ((s.withDsr (goodDsr x s.dsr)).withSau ⟨x.x⟩) (goodArrival x s) :=
  reportsOnly_withSau ((reportsOnly_withDsr (setFlagIf_only _ _ s) _).trans (raiseIf_only _ _ _)) _

theorem trackFrame_only (p : Shown) (s : State) :
    ReportsOnly (s.withAnt (track p s.ant).2) (trackFrame p s).2 :=
  setFlagIf_only _ _ _

theorem applyPendingBase_only (s : State) : EventsOnly s (applyPendingBase s) := by
  unfold applyPendingBase
  split
  · constructor <;> rfl
  · exact .refl s

theorem contextsTake_only (f : FrameInfo) (n : Nat) (s : State) : EventsOnly s (contextsTake f n s) :=
  (withCx_only s _).trans (setFlagIf_only _ _ _).events

theorem muteTakes_events {s t : State} (h : EventsOnly s t) : EventsOnly (muteTakes s) (muteTakes t) :=
  ⟨h.ant, h.edt, h.sau, congrArg muteFrame h.lmu, h.cw, h.dsr, h.up, h.cmx, h.par, h.pending⟩

/-- Before the samples are computed, M alone of what they are computed from changes. -/
theorem framePrep_only (f : FrameInfo) (n : Nat) (s : State) :
    EventsOnly (muteTakes s) (framePrep f n s) := by
  unfold framePrep
  refine muteTakes_events (EventsOnly.trans ?_ (contextsTake_only f n _))
  split
  · exact applyPendingBase_only s
  · exact .refl s

theorem saturationFlags_only (raw : PerPhase Raw) (s : State) : ReportsOnly s (saturationFlags raw s) :=
  (setFlagIf_only _ _ s).trans (setFlagIf_only _ _ _)

theorem muteFrame_yPrev (m : Lmu) : (muteFrame m).yPrev = m.yPrev := by
  have hramp (e : Nat) (done running : Mute) : (muteRampStep e done running m).yPrev = m.yPrev := by
    unfold muteRampStep
    dsimp only
    split <;> rfl
  unfold muteFrame
  split
  · rfl
  · rfl
  · exact hramp _ _ _
  · exact hramp _ _ _

theorem muteFrame_of_unmuted {m : Lmu} (h : m.mute = .unmuted) : muteFrame m = { m with factor := 16384 } := by
  simp only [muteFrame, h]
  rfl

/-! ### The samples and M of a frame -/

/-- The sample a phase emits, from the state after the arrival (R95, R100, R101). -/
theorem frameLimits_y (f : FrameInfo) (n : Nat) (s : State) (p : Phase) :
    ((frameLimits f n s).get p).y =
      (limitPhase
        (rawOutput (contributions f n s.cx.set) f.theta p (s.sau.xHold.get p) (s.par.offset.get p)
          (s.cw.get p).fold (muteFrame s.lmu).factor).y
        (s.lmu.yPrev.get p) (s.par.slew.get p) (s.par.peak.get p)).y := by
  have hprep := framePrep_only f n s
  have hsau : (framePrep f n s).sau = s.sau := hprep.sau
  have hlmu : (framePrep f n s).lmu = muteFrame s.lmu := hprep.lmu
  have hcw : (framePrep f n s).cw = s.cw := hprep.cw
  have hpar : (framePrep f n s).par = s.par := hprep.par
  rw [← muteFrame_yPrev s.lmu, ← hsau, ← hlmu, ← hcw, ← hpar]
  cases p <;> rfl

theorem frameCore_lmu (f : FrameInfo) (n : Nat) (s : State) :
    (frameCore f n s).lmu = { muteFrame s.lmu with yPrev := (frameLimits f n s).map (·.y) } := by
  have hflags := saturationFlags_only
    (rawOutputs (contributions f n s.cx.set) f.theta (framePrep f n s)) (framePrep f n s)
  have hlmu := hflags.lmu.trans (framePrep_only f n s).lmu
  exact congrArg (fun m : Lmu => { m with yPrev := (frameLimits f n s).map Limited.y }) hlmu

/-- Nothing after the limits of a frame touches the Limit and Mute Unit. -/
theorem frameWork_lmu (p : Presented) (f : FrameInfo) (n : Nat) (s : State) :
    (frameWork p f n s).lmu = (frameCore f n s).lmu :=
  (endStepIf_only _ _).lmu.trans (runAll_only f _ _).lmu

/-! ### A good SAMPLE frame with no command in the executor -/

theorem exec_sampleFrame_good {ws : List Word} {s : State} (h : WholeGoodDin typeSample ws s) :
    exec (.sampleFrame ws) s = .next (presentFrame (.good (readSample ws)) s) := by
  obtain ⟨hone, hgood, htype, hdin⟩ := h
  have hcommand : headerType (ws.headD 0) ≠ typeCommand := by rw [htype]; decide
  have hframe : receiveDin ws s = presentFrame (.good (readSample ws)) s := by
    rw [receiveDin_whole ws s hone hdin, dinFrame, if_neg hcommand, if_pos hgood]
  exact congrArg Host.Outcome.next hframe

theorem arrival_of_noCommand (p : Presented) {s : State} (h : NoCommand s) :
    arrival p s = (dsrArrival p s, none) := by
  unfold arrival
  split
  · next c hc => exact absurd hc (h c)
  · rfl

theorem presentFrame_of_noCommand (p : Presented) {s : State} (h : NoCommand s) :
    presentFrame p s =
      frameWork p (trackFrame (shownAs p s) (dsrArrival p s)).1 s.cx.set.length
        (trackFrame (shownAs p s) (dsrArrival p s)).2 := by
  simp only [presentFrame, arrival_of_noCommand p h, respondIfAny]

/-! ### Nothing active and the power-on limits (R95) -/

/-- No context, no fold-back, no mute, the power-on limits, and previous outputs within the peak limit. -/
structure AtRest (s : State) : Prop where
  set : s.cx.set = []
  mute : s.lmu.mute = .unmuted
  fold : ∀ p, (s.cw.get p).fold = 16384
  slew : ∀ p, s.par.slew.get p = 262143
  peak : ∀ p, s.par.peak.get p = 131071
  yPrev : ∀ p, -131071 ≤ s.lmu.yPrev.get p ∧ s.lmu.yPrev.get p ≤ 131071

theorem atRest_of_reportsOnly {s t : State} (h : ReportsOnly s t) (hs : AtRest s) : AtRest t := by
  obtain ⟨hset, hmute, hfold, hslew, hpeak, hprev⟩ := hs
  constructor
  · rwa [h.cx]
  · rwa [h.lmu]
  · rwa [h.cw]
  · rwa [h.par]
  · rwa [h.par]
  · rwa [h.lmu]

theorem atRest_goodArrival (x : Sample) {s : State} (hs : AtRest s) : AtRest (goodArrival x s) :=
  atRest_of_reportsOnly (goodArrival_only x s)
    ⟨hs.set, hs.mute, hs.fold, hs.slew, hs.peak, hs.yPrev⟩

theorem atRest_trackFrame (p : Shown) {s : State} (hs : AtRest s) : AtRest (trackFrame p s).2 :=
  atRest_of_reportsOnly (trackFrame_only p s)
    ⟨hs.set, hs.mute, hs.fold, hs.slew, hs.peak, hs.yPrev⟩

/-- At rest a phase emits its held input sample, -131072 becoming -131071 at the peak stage. -/
theorem frameLimits_y_at_rest (f : FrameInfo) (n : Nat) {s : State} (hs : AtRest s) (p : Phase)
    (hlo : -131072 ≤ s.sau.xHold.get p) (hhi : s.sau.xHold.get p ≤ 131071) :
    ((frameLimits f n s).get p).y = max (s.sau.xHold.get p) (-131071) := by
  have hnone : contributions f n [] = [] := by simp only [contributions, List.take_nil, List.map_nil]
  rw [frameLimits_y, hs.set, hnone, hs.fold p, hs.slew p, hs.peak p, muteFrame_of_unmuted hs.mute,
    rawOutput_of_unity _ p _ hlo hhi]
  simp only [limitPhase, slewStage_of_widest hlo hhi (hs.yPrev p), peakStage_of_widest hhi]

/-- Mute state, M and the emitted samples of a frame's work at rest. -/
theorem frameWork_lmu_at_rest (p : Presented) (f : FrameInfo) (n : Nat) {s : State} (hs : AtRest s)
    (hx : ∀ q, -131072 ≤ s.sau.xHold.get q ∧ s.sau.xHold.get q ≤ 131071) :
    (frameWork p f n s).lmu =
      { s.lmu with factor := 16384, yPrev := s.sau.xHold.map (fun x => max x (-131071)) } := by
  have hy (q : Phase) := frameLimits_y_at_rest f n hs q (hx q).1 (hx q).2
  have hmap : (frameLimits f n s).map (·.y) = s.sau.xHold.map (fun x => max x (-131071)) :=
    congr (congr (congrArg PerPhase.mk (hy .a)) (hy .b)) (hy .c)
  rw [frameWork_lmu, frameCore_lmu, muteFrame_of_unmuted hs.mute, hmap]

/-- The tracker leaves the samples that the arrival stored. -/
theorem trackFrame_goodArrival_sau (shown : Shown) (x : Sample) (s : State) :
    (trackFrame shown (goodArrival x s)).2.sau = ⟨x.x⟩ :=
  (trackFrame_only shown _).sau.trans (goodArrival_only x s).sau

theorem trackFrame_goodArrival_lmu (shown : Shown) (x : Sample) (s : State) :
    (trackFrame shown (goodArrival x s)).2.lmu = s.lmu :=
  (trackFrame_only shown _).lmu.trans (goodArrival_only x s).lmu

theorem readSample_x_bounds (ws : List Word) (q : Phase) :
    -131072 ≤ (readSample ws).x.get q ∧ (readSample ws).x.get q ≤ 131071 := by
  cases q <;> exact sampleOf_bounds _

/-- Mute state, M and the emitted samples of a good SAMPLE frame at rest. -/
theorem presentFrame_good_lmu_at_rest (ws : List Word) {s : State} (hcommand : NoCommand s)
    (hs : AtRest s) :
    (presentFrame (.good (readSample ws)) s).lmu =
      { s.lmu with factor := 16384, yPrev := (readSample ws).x.map (fun x => max x (-131071)) } := by
  have hsau := trackFrame_goodArrival_sau (shownAs (.good (readSample ws)) s) (readSample ws) s
  have hrest := atRest_trackFrame (shownAs (.good (readSample ws)) s)
    (atRest_goodArrival (readSample ws) hs)
  rw [presentFrame_of_noCommand _ hcommand, dsrArrival,
    frameWork_lmu_at_rest _ _ _ hrest (by rw [hsau]; exact readSample_x_bounds ws), hsau,
    trackFrame_goodArrival_lmu]

/-- Settles O21: arrival and tracker keep a state at rest, and its frame's work passes the samples on. -/
theorem atRestTheSamplesPassUnchanged : Obligations.AtRestTheSamplesPassUnchanged := by
  intro ws s hframe hcommand hset hmute hphase
  have hrest : AtRest s :=
    { set := hset
      mute := hmute
      fold := fun p => by obtain ⟨hfold, -⟩ := hphase p; exact hfold
      slew := fun p => by obtain ⟨-, hslew, -⟩ := hphase p; exact hslew
      peak := fun p => by obtain ⟨-, -, hpeak, -⟩ := hphase p; exact hpeak
      yPrev := fun p => by obtain ⟨-, -, -, hprev⟩ := hphase p; exact hprev }
  refine ⟨_, exec_sampleFrame_good hframe, ?_⟩
  rw [presentFrame_good_lmu_at_rest ws hcommand hrest]
  exact ⟨rfl, rfl, rfl, rfl, hmute⟩

end Sys2Proof.SampleComputation

namespace Sys2Proof.OutputLimits

open Sys2Proof.Machine Sys2Proof.Safety Sys2Proof.EventDescriptors

/-! ### Operations that leave mute state, M, gains and parameters alone -/

/-- Limit and Mute Unit, Current Watch and parameters are the same, and the safety stop holds in both states or
in neither. -/
structure SameLimits (s t : State) : Prop where
  faulted : t.sch.state = .faulted ↔ s.sch.state = .faulted
  lmu : t.lmu = s.lmu
  cw : t.cw = s.cw
  par : t.par = s.par

namespace SameLimits

theorem refl (s : State) : SameLimits s s := ⟨.rfl, rfl, rfl, rfl⟩

theorem trans {s t u : State} (h : SameLimits s t) (k : SameLimits t u) : SameLimits s u :=
  ⟨k.faulted.trans h.faulted, k.lmu.trans h.lmu, k.cw.trans h.cw, k.par.trans h.par⟩

theorem ofReports {s t : State} (h : ReportsOnly s t) : SameLimits s t :=
  ⟨by rw [h.sch], h.lmu, h.cw, h.par⟩

theorem ite {c : Prop} [Decidable c] {s t u : State} (ht : SameLimits s t) (hu : SameLimits s u) :
    SameLimits s (if c then t else u) := by
  split
  · exact ht
  · exact hu

end SameLimits

/-! ### Setters -/

theorem withAnt_sameLimits (s : State) (x : Ant) : SameLimits s (s.withAnt x) := ⟨.rfl, rfl, rfl, rfl⟩
theorem withEdt_sameLimits (s : State) (x : List (Nat × Desc)) : SameLimits s (s.withEdt x) :=
  ⟨.rfl, rfl, rfl, rfl⟩
theorem withRing_sameLimits (s : State) (x : List (Nat × Slot)) : SameLimits s (s.withRing x) :=
  ⟨.rfl, rfl, rfl, rfl⟩
theorem withCx_sameLimits (s : State) (x : Cx) : SameLimits s (s.withCx x) := ⟨.rfl, rfl, rfl, rfl⟩
theorem withSau_sameLimits (s : State) (x : Sau) : SameLimits s (s.withSau x) := ⟨.rfl, rfl, rfl, rfl⟩
theorem withMku_sameLimits (s : State) (x : Mku) : SameLimits s (s.withMku x) := ⟨.rfl, rfl, rfl, rfl⟩
theorem withDsr_sameLimits (s : State) (x : Dsr) : SameLimits s (s.withDsr x) := ⟨.rfl, rfl, rfl, rfl⟩
theorem withUp_sameLimits (s : State) (x : Up) : SameLimits s (s.withUp x) := ⟨.rfl, rfl, rfl, rfl⟩
theorem withCmx_sameLimits (s : State) (x : Cmx) : SameLimits s (s.withCmx x) := ⟨.rfl, rfl, rfl, rfl⟩
theorem withRpq_sameLimits (s : State) (x : Rpq) : SameLimits s (s.withRpq x) := ⟨.rfl, rfl, rfl, rfl⟩
theorem withFlags_sameLimits (s : State) (x : BitVec 23) : SameLimits s (s.withFlags x) :=
  ⟨.rfl, rfl, rfl, rfl⟩
theorem withPending_sameLimits (s : State) (x : List Instr) : SameLimits s (s.withPending x) :=
  ⟨.rfl, rfl, rfl, rfl⟩

/-- The Scheduler may be replaced by one that is FAULTED where the present one is. -/
theorem withSch_sameLimits (s : State) (x : Sch) (h : x.state = .faulted ↔ s.sch.state = .faulted) :
    SameLimits s (s.withSch x) := ⟨h, rfl, rfl, rfl⟩

/-- Outside FAULTED the Scheduler may move to any other state. -/
theorem withSch_sameLimits_of_not_faulted {s : State} {x : Sch} (hs : s.sch.state ≠ .faulted)
    (hx : x.state ≠ .faulted) : SameLimits s (s.withSch x) :=
  withSch_sameLimits s x (iff_of_false hx hs)

/-! ### Reports and markers -/

theorem setFlag_sameLimits (f : Flag) (s : State) : SameLimits s (setFlag f s) :=
  .ofReports (setFlag_only f s)

theorem setFlagIf_sameLimits (c : Bool) (f : Flag) (s : State) : SameLimits s (setFlagIf c f s) :=
  .ofReports (setFlagIf_only c f s)

theorem raise_sameLimits (n : Notice) (s : State) : SameLimits s (raise n s) := .ofReports (raise_only n s)

theorem raiseIf_sameLimits (c : Bool) (n : Notice) (s : State) : SameLimits s (raiseIf c n s) :=
  .ofReports (raiseIf_only c n s)

theorem choose_sameLimits (n : Nat) (s : State) : SameLimits s (choose n s).2 :=
  .ofReports (choose_only n s)

theorem chooseFirst_sameLimits (s : State) : SameLimits s (chooseFirst s).2 :=
  .ofReports (chooseFirst_only s)

theorem haltNow_sameLimits {s : State} (hs : s.sch.state ≠ .faulted) : SameLimits s (haltNow s) :=
  (withSch_sameLimits_of_not_faulted hs (by simp)).trans (withCx_sameLimits _ _)

theorem stopNow_sameLimits (s : State) : SameLimits s (stopNow s) := by
  unfold stopNow
  split
  · next h => exact haltNow_sameLimits (by simp [h])
  · next h => exact haltNow_sameLimits (by simp [h])
  · exact .refl s
  · exact .refl s

theorem fire_sameLimits (k : Nat) (s : State) : SameLimits s (fire k s) := by
  have hstop (c : Bool) (t : State) : SameLimits t (if c = true then stopNow t else t) :=
    .ite (stopNow_sameLimits t) (.refl t)
  unfold fire
  exact (((SameLimits.ite (withMku_sameLimits s _) (.refl s)).trans (hstop _ _)).trans
    (raiseIf_sameLimits _ _ _)).trans (withMku_sameLimits _ _)

theorem fireIfHit_sameLimits (hit : MarkerCond → Bool) (k : Nat) (s : State) :
    SameLimits s (fireIfHit hit k s) :=
  .ite (fire_sameLimits k s) (.refl s)

theorem fireMarkers_sameLimits (hit : MarkerCond → Bool) (s : State) : SameLimits s (fireMarkers hit s) :=
  (((fireIfHit_sameLimits hit 0 s).trans (fireIfHit_sameLimits hit 1 _)).trans
    (fireIfHit_sameLimits hit 2 _)).trans (fireIfHit_sameLimits hit 3 _)

theorem fireWithNotice_sameLimits (hit : MarkerCond → Bool) (place : Nat) (n : Notice) (s : State) :
    SameLimits s (fireWithNotice hit place n s) := by
  have h (k : Nat) (t : State) : SameLimits t (fireIfHit hit k (raiseIf (place == k) n t)) :=
    (raiseIf_sameLimits _ n t).trans (fireIfHit_sameLimits hit k _)
  exact ((((h 0 s).trans (h 1 _)).trans (h 2 _)).trans (h 3 _)).trans (raiseIf_sameLimits _ _ _)

theorem noticeAndFire_sameLimits (c : Bool) (n : Notice) (hit : MarkerCond → Bool) (s : State) :
    SameLimits s (noticeAndFire c n hit s) :=
  .ite ((choose_sameLimits 5 s).trans (fireWithNotice_sameLimits _ _ _ _))
    ((raiseIf_sameLimits _ _ _).trans (fireMarkers_sameLimits _ _))

/-! ### Contexts and armings -/

theorem contextEnds_sameLimits (c : Ctx) (aborted : Bool) (s : State) :
    SameLimits s (contextEnds c aborted s) :=
  .ite ((withCx_sameLimits s _).trans (raiseIf_sameLimits _ _ _))
    ((withCx_sameLimits s _).trans (noticeAndFire_sameLimits _ _ _ _))

theorem lifeStartsNow_sameLimits (i : Nat) (late : Bool) (s : State) :
    SameLimits s (lifeStartsNow i late s) := by
  unfold lifeStartsNow
  split
  · exact .refl s
  · exact noticeAndFire_sameLimits _ _ _ _

theorem lifeEndsNow_sameLimits (i : Nat) (s : State) : SameLimits s (lifeEndsNow i s).1 := by
  unfold lifeEndsNow
  split
  · exact .refl s
  · split
    · exact withCx_sameLimits _ _
    · exact contextEnds_sameLimits _ _ _

theorem reportFault_sameLimits (c : FaultCause) (s : State) : SameLimits s (reportFault c s) := by
  unfold reportFault
  exact SameLimits.trans (withSch_sameLimits s _ (by rfl)) (raise_sameLimits _ _)

theorem consistencyFault_sameLimits (c : FaultCause) (s : State) : SameLimits s (consistencyFault c s) := by
  refine (withSch_sameLimits s _ ?_).trans (reportFault_sameLimits _ _)
  dsimp only
  split
  · next h => simp [h]
  · next h => simp [h]

theorem offerEntry_sameLimits (source : ArmSource) (r : State × ArmCount) (i : Nat) :
    SameLimits r.1 (offerEntry source r i).1 := by
  unfold offerEntry
  split
  · exact (setFlag_sameLimits _ _).trans (raise_sameLimits _ _)
  · split
    · exact withCx_sameLimits _ _
    · exact .refl _

theorem offerEntries_sameLimits (source : ArmSource) (l : List Nat) (s : State) :
    SameLimits s (offerEntries source l s).1 := by
  have h (l : List Nat) : ∀ r : State × ArmCount, SameLimits r.1 (l.foldl (offerEntry source) r).1 := by
    induction l with
    | nil => exact fun r => .refl _
    | cons i l ih => exact fun r => (offerEntry_sameLimits source r i).trans (ih _)
  exact h l (s, ArmCount.zero)

theorem armChain_sameLimits (source : ArmSource) (head : Nat) (s : State) :
    SameLimits s (armChain source head s) := by
  unfold armChain
  split
  · exact offerEntries_sameLimits _ _ _
  · exact consistencyFault_sameLimits _ _
  · exact consistencyFault_sameLimits _ _

theorem armAfterLink_sameLimits (head : Nat) (s : State) : SameLimits s (armAfterLink head s) :=
  .ite (.refl s) (armChain_sameLimits _ _ _)

theorem syncAtScheduler_sameLimits (s : State) : SameLimits s (syncAtScheduler s) := by
  have harm : SameLimits s
      (match s.par.syncOffset with | some o => armChain .sync (resolveOffset s o) s | none => s) := by
    split
    · exact armChain_sameLimits _ _ _
    · exact .refl s
  unfold syncAtScheduler
  split
  · exact harm
  · exact harm
  · exact setFlag_sameLimits _ s
  · exact setFlag_sameLimits _ s

theorem takeEdge_sameLimits (s : State) : SameLimits s (takeEdge s) :=
  .ite ((withMku_sameLimits s _).trans
      ((syncAtScheduler_sameLimits _).trans (fireMarkers_sameLimits hitSync _)))
    (withMku_sameLimits s _)

/-! ### The ring read and the free parts of a frame -/

theorem takeFrom_sameLimits (f : FrameInfo) (n : Nat) (s : State) : SameLimits s (takeFrom f n s).1 :=
  (withCx_sameLimits s _).trans (setFlagIf_sameLimits _ _ _)

theorem startNowOrLater_sameLimits (items : List Item) (s : State) :
    SameLimits s (startNowOrLater items s).1 := by
  unfold startNowOrLater
  split
  · split
    · exact (chooseFirst_sameLimits s).trans (lifeStartsNow_sameLimits _ _ _)
    · exact chooseFirst_sameLimits s
  · exact .refl s

theorem offerRingEntry_sameLimits (f : FrameInfo) (r : State × List Item) (i : Nat) :
    SameLimits r.1 (offerRingEntry f r i).1 :=
  ((offerEntry_sameLimits .ring (r.1, ArmCount.zero) i).trans (takeFrom_sameLimits f _ _)).trans
    (startNowOrLater_sameLimits _ _)

theorem offerRingFold_sameLimits (f : FrameInfo) (l : List Nat) (r : State × List Item) :
    SameLimits r.1 (l.foldl (offerRingEntry f) r).1 := by
  induction l generalizing r with
  | nil => exact .refl _
  | cons i l ih => exact (offerRingEntry_sameLimits f r i).trans (ih _)

theorem armRing_sameLimits (f : FrameInfo) (head : Nat) (s : State) :
    SameLimits s (armRing f head s).1 := by
  unfold armRing
  split
  · exact offerRingFold_sameLimits f _ (s, [])
  · exact consistencyFault_sameLimits _ _
  · exact consistencyFault_sameLimits _ _

theorem emptyOnce_sameLimits (cycle : Nat) (slot : Slot) (s : State) :
    SameLimits s (emptyOnce cycle slot s) := by
  unfold emptyOnce
  split
  · exact withRing_sameLimits s _
  · exact .refl s

theorem ringReadNow_sameLimits (f : FrameInfo) (s : State) : SameLimits s (ringReadNow f s).1 := by
  unfold ringReadNow
  split
  · split
    · exact .refl s
    · exact (emptyOnce_sameLimits _ _ s).trans (armRing_sameLimits f _ _)
  · exact .refl s

theorem doItem_sameLimits (f : FrameInfo) (it : Item) (s : State) : SameLimits s (doItem f it s).1 := by
  cases it with
  | ringRead => exact ringReadNow_sameLimits f s
  | cycleMarks => exact fireMarkers_sameLimits _ s
  | lifeStarts i late => exact lifeStartsNow_sameLimits i late s
  | lifeEnds i => exact lifeEndsNow_sameLimits i s
  | afterLink head => exact armAfterLink_sameLimits head s
  | limits l => exact .ofReports (limitFlags_only l s)
  | clipMarks c => exact fireMarkers_sameLimits _ s

/-- No part of a frame's work that meets others in a free order moves M, a gain or a limit. -/
theorem runAll_sameLimits (f : FrameInfo) (items : List Item) (s : State) :
    SameLimits s (runAll f items s) :=
  runItems_keeps (SameLimits s) f (fun n t h => h.trans (choose_sameLimits n t))
    (fun it t h => h.trans (doItem_sameLimits f it t)) _ items s (.refl s)

theorem endStepIf_sameLimits (c : Bool) (s : State) : SameLimits s (endStepIf c s) := by
  unfold endStepIf
  split
  · next h =>
    simp only [Bool.and_eq_true, beq_iff_eq] at h
    obtain ⟨-, hstepping⟩ := h
    exact withSch_sameLimits_of_not_faulted (by simp [hstepping]) (by simp)
  · exact .refl s

theorem applyPendingBase_sameLimits (s : State) : SameLimits s (applyPendingBase s) := by
  unfold applyPendingBase
  split
  · exact withSch_sameLimits s _ .rfl
  · exact .refl s

theorem contextsTake_sameLimits (f : FrameInfo) (n : Nat) (s : State) : SameLimits s (contextsTake f n s) :=
  (withCx_sameLimits s _).trans (setFlagIf_sameLimits _ _ _)

theorem sendOutput_sameLimits (p : Presented) (theta : Nat) (opens : PerPhase Bool) (s : State) :
    SameLimits s (sendOutput p theta opens s) :=
  withDsr_sameLimits s _

theorem trackFrame_sameLimits (p : Shown) (s : State) : SameLimits s (trackFrame p s).2 :=
  (withAnt_sameLimits s _).trans (setFlagIf_sameLimits _ _ _)

/-! ### Command Buffer, reports and sending -/

theorem takeCommand_sameLimits (s : State) : SameLimits s (takeCommand s) := by
  unfold takeCommand
  split
  · exact withCmx_sameLimits s _
  · exact .refl s

theorem offerCommand_sameLimits (c : Cmd) (s : State) : SameLimits s (offerCommand c s) :=
  .ite ((withCmx_sameLimits s _).trans (takeCommand_sameLimits _))
    ((setFlag_sameLimits _ s).trans (raise_sameLimits _ _))

theorem respond_sameLimits (c : Cmd) (a : Answer) (s : State) : SameLimits s (respond c a s) :=
  .ite (((withRpq_sameLimits s _).trans (withCmx_sameLimits _ _)).trans (takeCommand_sameLimits _))
    (withCmx_sameLimits s _)

theorem placeHeld_sameLimits (s : State) : SameLimits s (placeHeld s) := by
  unfold placeHeld
  split
  · exact .ite (((withRpq_sameLimits s _).trans (withCmx_sameLimits _ _)).trans
      (takeCommand_sameLimits _)) (.refl s)
  · exact .refl s

theorem placeFreed_sameLimits (s : State) : SameLimits s (placeFreed s) := by
  have hfree := chooseFirst_sameLimits s
  unfold placeFreed
  split
  · exact .ite (hfree.trans (placeHeld_sameLimits _)) hfree
  · exact .refl s

theorem sendUp_sameLimits (ws : List Word) (s : State) : SameLimits s (sendUp ws s) := by
  unfold sendUp
  split <;> exact withUp_sameLimits s _

theorem passOn_sameLimits (ws : List Word) (s : State) : SameLimits s (passOn ws s) :=
  .ite (.refl s) (sendUp_sameLimits ws s)

theorem sendHeadReport_sameLimits (s : State) : SameLimits s (sendHeadReport s) := by
  unfold sendHeadReport
  split
  · exact .refl s
  · exact ((withRpq_sameLimits s _).trans (sendUp_sameLimits _ _)).trans (placeFreed_sameLimits _)

theorem uoutEnds_sameLimits (s : State) : SameLimits s (uoutEnds s) := by
  unfold uoutEnds
  split
  · exact .refl s
  · split <;> exact withUp_sameLimits s _

theorem cadenceExpires_sameLimits (s : State) : SameLimits s (cadenceExpires s) :=
  .ite ((withUp_sameLimits s _).trans (sendHeadReport_sameLimits _)) (withUp_sameLimits s _)

theorem offerForward_sameLimits (ws : List Word) (s : State) : SameLimits s (offerForward ws s) := by
  unfold offerForward
  split
  · exact withDsr_sameLimits s _
  · exact setFlag_sameLimits _ s

theorem goodCommandFrame_sameLimits (ws : List Word) (s : State) :
    SameLimits s (goodCommandFrame ws s) := by
  unfold goodCommandFrame
  split
  · exact offerCommand_sameLimits _ s
  · exact offerForward_sameLimits ws s
  · exact setFlag_sameLimits _ s

theorem dsrArrival_sameLimits (p : Presented) (s : State) : SameLimits s (dsrArrival p s) := by
  cases p with
  | good x =>
    exact (((setFlagIf_sameLimits _ _ s).trans (withDsr_sameLimits _ _)).trans
      (raiseIf_sameLimits _ _ _)).trans (withSau_sameLimits _ _)
  | failing => exact (setFlag_sameLimits _ s).trans (withDsr_sameLimits _ _)
  | selfGenerated => exact .refl s

theorem sampleSync_sameLimits (level : Level) (s : State) : SameLimits s (sampleSync level s) :=
  .ite (.refl s) (.ite (withMku_sameLimits s _) (withMku_sameLimits s _))

theorem timersTick_sameLimits (s : State) : SameLimits s (timersTick s) :=
  (withDsr_sameLimits s _).trans (withUp_sameLimits _ _)

/-! ### Rows that leave the limits alone -/

theorem contextEvent_sameLimits (f : FrameInfo) (due : Ctx → Bool) (i : Nat) (s : State) :
    SameLimits s (contextEvent f due i s) := by
  unfold contextEvent
  split
  · exact .refl s
  · exact .ite (((withCx_sameLimits s _).trans (setFlagIf_sameLimits _ _ _)).trans
      (runAll_sameLimits f _ _)) (.refl s)

theorem powerOn_sameLimits (s : State) : SameLimits State.reset (powerOn s) := ⟨.rfl, rfl, rfl, rfl⟩

/-! ### Commands that leave the limits alone -/

theorem arriveTakeFlags_sameLimits (payload : List Word) (s : State) :
    SameLimits s (arriveTakeFlags payload s).2 := by
  unfold arriveTakeFlags
  dsimp only
  split
  · exact .refl s
  · exact withFlags_sameLimits s _

theorem arriveWriteDesc_sameLimits (payload : List Word) (s : State) :
    SameLimits s (arriveWriteDesc payload s).2 := by
  unfold arriveWriteDesc
  dsimp only
  split
  · exact .refl s
  split
  · exact setFlag_sameLimits _ s
  split
  · exact withEdt_sameLimits s _
  · exact .refl s

theorem arriveEraseDesc_sameLimits (payload : List Word) (s : State) :
    SameLimits s (arriveEraseDesc payload s).2 := by
  unfold arriveEraseDesc
  dsimp only
  split
  · exact .refl s
  split
  · exact setFlag_sameLimits _ s
  · exact withEdt_sameLimits s _

theorem arriveWriteSlots_sameLimits (payload : List Word) (s : State) :
    SameLimits s (arriveWriteSlots payload s).2 := by
  unfold arriveWriteSlots
  dsimp only
  split
  · split
    · exact withRing_sameLimits s _
    · exact .refl s
  · exact .refl s

theorem arriveRun_sameLimits (s : State) : SameLimits s (arriveRun s).2 := by
  unfold arriveRun
  split
  · exact .refl s
  · next h => exact withSch_sameLimits_of_not_faulted h (by simp)

theorem arriveStep_sameLimits (s : State) : SameLimits s (arriveStep s).2 := by
  unfold arriveStep
  split
  · next h => exact withSch_sameLimits_of_not_faulted (by simp [h]) (by simp)
  · exact .refl s

theorem arriveHalt_sameLimits (s : State) : SameLimits s (arriveHalt s).2 := by
  unfold arriveHalt
  split
  · exact .refl s
  · next h => exact haltNow_sameLimits h

theorem arriveAbort_sameLimits (s : State) : SameLimits s (arriveAbort s).2 := by
  unfold arriveAbort
  split
  · exact .refl s
  · next h =>
    exact ((withSch_sameLimits_of_not_faulted h (by simp)).trans (withCx_sameLimits _ _)).trans
      (.ofReports (raiseAll_only _ _))

theorem arriveSetCycle_sameLimits (payload : List Word) (s : State) :
    SameLimits s (arriveSetCycle payload s).2 := by
  unfold arriveSetCycle
  split
  · exact withAnt_sameLimits s _
  · exact .refl s

theorem arriveSetMarker_sameLimits (payload : List Word) (s : State) :
    SameLimits s (arriveSetMarker payload s).2 := by
  unfold arriveSetMarker
  dsimp only
  split
  · exact .refl s
  split
  · exact .refl s
  · exact withMku_sameLimits s _

theorem arriveArm_sameLimits (payload : List Word) (s : State) :
    SameLimits s (arriveArm payload s).2.2 := by
  unfold arriveArm
  dsimp only
  split
  · exact .refl s
  split
  · exact .refl s
  split
  · exact .refl s
  · exact .refl s
  · exact offerEntries_sameLimits _ _ s

/-! ### Properties that every engine command keeps -/

/-- A property of mute state, M, gains and parameters that SET_PARAM, RESET_ENGINE and CLEAR_FAULT keep, the
commands that write one of them. -/
structure CommandInvariant (P : State → Prop) : Prop where
  same : ∀ {s t : State}, SameLimits s t → P s → P t
  setParam : ∀ (i : Nat) (w : Word) (s : State), P s → P (setParamTo i w s).2
  resetEngine : ∀ s : State, P s → P (arriveResetEngine s).2
  clearFault : ∀ s : State, P s → P (arriveClearFault s).2

namespace CommandInvariant

variable {P : State → Prop}

/-- One arm of a command's own rule. -/
theorem arm {c : Prop} [Decidable c] {r q : Answer × State} (hr : P r.2) (hq : P q.2) :
    P (if c then r else q).2 := by
  split
  · exact hr
  · exact hq

theorem ownRule (hP : CommandInvariant P) (c : Cmd) (s : State) (h : P s) : P (ownRule c s).2 := by
  unfold Machine.ownRule
  refine arm h (arm h (arm (hP.same (arriveTakeFlags_sameLimits _ s) h) (arm h ?_)))
  refine arm (hP.setParam _ _ s h) (arm (hP.resetEngine s h) ?_)
  refine arm (hP.same (arriveWriteDesc_sameLimits _ s) h) (arm h ?_)
  refine arm (hP.same (arriveEraseDesc_sameLimits _ s) h) ?_
  refine arm (hP.same (arriveWriteSlots_sameLimits _ s) h) (arm h ?_)
  refine arm (hP.same (arriveRun_sameLimits s) h) (arm (hP.same (arriveStep_sameLimits s) h) ?_)
  refine arm (hP.same (arriveHalt_sameLimits s) h) (arm (hP.same (arriveAbort_sameLimits s) h) ?_)
  refine arm (hP.same (arriveSetCycle_sameLimits _ s) h) (arm (hP.same (arriveArm_sameLimits _ s) h) ?_)
  refine arm (hP.clearFault s h) (arm h ?_)
  exact arm (hP.same (arriveSetMarker_sameLimits _ s) h) (arm h h)

theorem commandArrives (hP : CommandInvariant P) (c : Cmd) (s : State) (h : P s) :
    P (commandArrives c s).2 := by
  unfold Machine.commandArrives
  split
  · exact h
  · split
    · exact hP.ownRule c s h
    · exact h

theorem commandRow (hP : CommandInvariant P) (c : Cmd) (s : State) (h : P s) : P (commandRow c s) := by
  have hrun : P (carryOut c s) := hP.same (respond_sameLimits c _ _) (hP.commandArrives c s h)
  unfold Machine.commandRow
  split
  · exact hrun
  · split
    · exact hrun
    · exact h
  · exact h

/-- Arrival and command come in either order where the order is open (log 7). -/
theorem arrival (hP : CommandInvariant P) (p : Presented) (s : State) (h : P s) : P (arrival p s).1 := by
  unfold Machine.arrival
  split
  · next c _ =>
    have ho : P (if arrivalOrderOpen p c s then chooseFirst s else (true, s)).2 := by
      split
      · exact hP.same (chooseFirst_sameLimits s) h
      · exact h
    dsimp only
    generalize (if arrivalOrderOpen p c s then chooseFirst s else (true, s)) = o at ho ⊢
    split
    · exact hP.commandArrives c _ (hP.same (dsrArrival_sameLimits p _) ho)
    · exact hP.same (dsrArrival_sameLimits p _) (hP.commandArrives c _ ho)
  · exact hP.same (dsrArrival_sameLimits p s) h

end CommandInvariant

/-! ### Fold steps (R113) -/

/-- A fold-back gain lies between the floor in force and 16384 (R109). -/
def GainInRange (par : Params) (c : CwPhase) : Prop := par.foldFloor ≤ c.fold ∧ c.fold ≤ 16384

theorem foldDown_inRange {par : Params} {c : CwPhase} (h : GainInRange par c) :
    GainInRange par { c with fold := foldDown c.fold par.foldStep par.foldFloor } := by
  unfold GainInRange foldDown at *
  dsimp only
  omega

theorem foldUp_inRange {par : Params} {c : CwPhase} (h : GainInRange par c) :
    GainInRange par { c with fold := foldUp c.fold par.foldStep } := by
  unfold GainInRange foldUp Config.unity at *
  dsimp only
  omega

theorem unity_inRange {par : Params} {c : CwPhase} (h : GainInRange par c) (overs : Nat) (tripped : Bool) :
    GainInRange par ⟨overs, tripped, Config.unity⟩ := by
  unfold GainInRange Config.unity at *
  dsimp only
  omega

/-! ### Properties that every step keeps -/

/-- A property of mute state, M, gains and parameters that holds at reset and that every operation which writes
one of them keeps. A phase of the Current Watch may be replaced where its gain stays in range. -/
structure LimitInvariant (P : State → Prop) : Prop extends CommandInvariant P where
  reset : P State.reset
  muteTakes : ∀ s : State, P s → P (muteTakes s)
  emit : ∀ (l : PerPhase Limited) (s : State), P s → P (emit l s)
  safetyStop : ∀ (c : FaultCause) (s : State), P s → P (safetyStop c s)
  setWatch : ∀ (p : Phase) (c : CwPhase) (s : State),
    (GainInRange s.par (s.cw.get p) → GainInRange s.par c) → P s → P (setWatch p c s)

namespace LimitInvariant

variable {P : State → Prop}

/-! #### The Current Watch (R110 to R114) -/

theorem foldPhase (hP : LimitInvariant P) (p : Phase) (above : Bool) (s : State) (h : P s) :
    P (foldPhase p above s) := by
  unfold Machine.foldPhase
  dsimp only
  split
  · exact hP.setWatch p _ s foldDown_inRange h
  split
  · exact hP.same (raise_sameLimits _ _) (hP.setWatch p _ s (fun hr => unity_inRange hr _ _) h)
  · exact hP.setWatch p _ s foldUp_inRange h

theorem trippedStep (hP : LimitInvariant P) (p : Phase) (above : Bool) (s : State) (h : P s) :
    P (trippedStep p above s) := by
  unfold Machine.trippedStep
  split
  · split
    · exact h
    · exact hP.setWatch p _ s (fun hr => hr) h
  · exact hP.foldPhase p above s h
  · exact h

theorem tripActionBegins (hP : LimitInvariant P) (p : Phase) (s : State) (h : P s) :
    P (tripActionBegins p s) := by
  unfold Machine.tripActionBegins
  split
  · exact h
  · exact hP.foldPhase p true s h
  · exact hP.safetyStop _ s h

theorem tripPhase (hP : LimitInvariant P) (p : Phase) (s : State) (h : P s) : P (tripPhase p s) :=
  hP.tripActionBegins p _
    (hP.same (((setFlag_sameLimits _ _).trans (raise_sameLimits _ _)).trans (fireMarkers_sameLimits _ _))
      (hP.setWatch p _ s (fun hr => hr) h))

theorem countOver (hP : LimitInvariant P) (p : Phase) (above : Bool) (s : State) (h : P s) :
    P (countOver p above s) :=
  hP.setWatch p _ s (fun hr => hr) h

theorem watchPhase (hP : LimitInvariant P) (p : Phase) (current : Int) (s : State) (h : P s) :
    P (watchPhase p current s) := by
  have hcount := hP.countOver p (isOver current (s.par.ilim.get p)) s h
  unfold Machine.watchPhase
  dsimp only
  split
  · exact hP.trippedStep p _ _ hcount
  split
  · exact hP.tripPhase p _ hcount
  · exact hcount

theorem watchFrame (hP : LimitInvariant P) (i : PerPhase Int) (s : State) (h : P s) : P (watchFrame i s) :=
  hP.watchPhase .c _ _ (hP.watchPhase .b _ _ (hP.watchPhase .a _ s h))

/-! #### A presented frame and DIN -/

theorem framePrep (hP : LimitInvariant P) (f : FrameInfo) (n : Nat) (s : State) (h : P s) :
    P (framePrep f n s) :=
  hP.muteTakes _ (hP.same
    ((SameLimits.ite (applyPendingBase_sameLimits s) (.refl s)).trans (contextsTake_sameLimits f n _)) h)

theorem frameWork (hP : LimitInvariant P) (p : Presented) (f : FrameInfo) (n : Nat) (s : State) (h : P s) :
    P (frameWork p f n s) := by
  have hcore : P (frameCore f n s) :=
    hP.emit _ _ (hP.same (.ofReports (SampleComputation.saturationFlags_only _ _)) (hP.framePrep f n s h))
  exact hP.same (((runAll_sameLimits f _ _).trans (endStepIf_sameLimits _ _)).trans
    (sendOutput_sameLimits p _ _ _)) hcore

theorem presentFrame (hP : LimitInvariant P) (p : Presented) (s : State) (h : P s) :
    P (presentFrame p s) := by
  have hwork := hP.frameWork p (trackFrame (shownAs p s) (Machine.arrival p s).1).1 s.cx.set.length _
    (hP.same (trackFrame_sameLimits (shownAs p s) _) (hP.arrival p s h))
  unfold Machine.presentFrame respondIfAny
  dsimp only
  split
  · exact hP.same (respond_sameLimits _ _ _) hwork
  · exact hwork

theorem dinFrame (hP : LimitInvariant P) (ws : List Word) (s : State) (h : P s) : P (dinFrame ws s) := by
  unfold Machine.dinFrame
  split
  · split
    · exact hP.same (goodCommandFrame_sameLimits ws s) h
    · exact hP.same (setFlag_sameLimits _ s) h
  · split <;> exact hP.presentFrame _ s h

theorem dinWord (hP : LimitInvariant P) (w : Word) (s : State) (h : P s) : P (dinWord w s) := by
  have hword := hP.same (withDsr_sameLimits s { s.dsr with din := (assemble s.dsr.din w).1 }) h
  unfold Machine.dinWord
  dsimp only
  split
  · exact hP.dinFrame _ _ hword
  · exact hword

theorem receiveDin (hP : LimitInvariant P) (ws : List Word) (s : State) (h : P s) : P (receiveDin ws s) :=
  receiveDin_keeps P hP.dinWord ws s h

theorem selfFrame (hP : LimitInvariant P) (s : State) (h : P s) : P (selfFrame s) :=
  hP.presentFrame _ _ (hP.same (withDsr_sameLimits s _) h)

theorem loseDownstream (hP : LimitInvariant P) (s : State) (h : P s) : P (loseDownstream s) :=
  hP.same (withDsr_sameLimits _ _)
    (hP.safetyStop _ _ (hP.same ((withDsr_sameLimits s _).trans (raise_sameLimits _ _)) h))

/-! #### UIN -/

theorem handleUin (hP : LimitInvariant P) (ws : List Word) (s : State) (h : P s) : P (handleUin ws s) := by
  unfold Machine.handleUin
  split
  · exact hP.same (passOn_sameLimits ws _) (hP.watchFrame _ s h)
  split
  · exact hP.same (sendHeadReport_sameLimits s) h
  · exact hP.same (passOn_sameLimits ws s) h

theorem goodUinFrame (hP : LimitInvariant P) (ws : List Word) (s : State) (h : P s) :
    P (goodUinFrame ws s) := by
  have hup := withUp_sameLimits s (upAlive s.up)
  have hfree := hup.trans (chooseFirst_sameLimits _)
  unfold Machine.goodUinFrame
  dsimp only
  split
  · split
    · exact hP.handleUin ws _ (hP.same (hfree.trans (raise_sameLimits _ _)) h)
    · exact hP.same (raise_sameLimits _ _) (hP.handleUin ws _ (hP.same hfree h))
  · exact hP.handleUin ws _ (hP.same (hup.trans (raiseIf_sameLimits _ _ _)) h)

theorem uinWord (hP : LimitInvariant P) (w : Word) (s : State) (h : P s) : P (uinWord w s) := by
  have hword := hP.same (withUp_sameLimits s { s.up with uin := (assemble s.up.uin w).1 }) h
  unfold Machine.uinWord uinFrame
  dsimp only
  split
  · split
    · exact hP.goodUinFrame _ _ hword
    · exact hP.same ((setFlagIf_sameLimits _ _ _).trans (passOn_sameLimits _ _)) hword
  · exact hword

theorem receiveUin (hP : LimitInvariant P) (ws : List Word) (s : State) (h : P s) : P (receiveUin ws s) :=
  receiveUin_keeps P hP.uinWord ws s h

theorem upstreamFault (hP : LimitInvariant P) (s : State) (h : P s) : P (upstreamFault s) := by
  unfold Machine.upstreamFault
  split
  · exact h
  · exact hP.safetyStop _ s h
  · exact hP.safetyStop _ s h

theorem loseUpstream (hP : LimitInvariant P) (s : State) (h : P s) : P (loseUpstream s) :=
  hP.same (withUp_sameLimits _ _)
    (hP.upstreamFault _ (hP.same ((withUp_sameLimits s _).trans (raise_sameLimits _ _)) h))

/-! #### Ticks and rows -/

theorem doTickPart (hP : LimitInvariant P) (p : TickPart) (s : State) (h : P s) : P (doTickPart p s) := by
  cases p with
  | pulse => exact hP.same (withMku_sameLimits s _) h
  | held => exact hP.same (placeHeld_sameLimits s) h
  | edge => exact hP.same (takeEdge_sameLimits s) h
  | downLoss => exact hP.loseDownstream s h
  | selfFrame => exact hP.selfFrame s h
  | upLoss => exact hP.loseUpstream s h
  | cadence => exact hP.same (cadenceExpires_sameLimits s) h

theorem tick (hP : LimitInvariant P) (level : Level) (s : State) (h : P s) : P (tick level s) :=
  runTick_keeps P (fun n t => hP.same (choose_sameLimits n t)) hP.doTickPart _ _ _
    (hP.same ((sampleSync_sameLimits level s).trans (timersTick_sameLimits _)) h)

/-- A row whose event is not due changes nothing (log 2). -/
theorem ite {c : Prop} [Decidable c] {s t : State} (hs : P s) (ht : P t) : P (if c then t else s) := by
  split
  · exact ht
  · exact hs

/-- The rows that are no engine command. -/
theorem exec_event (hP : LimitInvariant P) {i : Instr} {s t : State} (hc : commandOf i = none) (hs : P s)
    (h : exec i s = .next t) : P t := by
  cases i <;> cases hc <;> cases h
  case powerOnReset => exact hP.same (powerOn_sameLimits s) hP.reset
  case sampleFrame words => exact hP.receiveDin words s hs
  case commandFrame words => exact hP.receiveDin words s hs
  case selfGeneratedFrame => exact ite hs (hP.selfFrame s hs)
  case downstreamLinkLoss => exact ite hs (hP.loseDownstream s hs)
  case doutFrameSent => exact hP.same (withDsr_sameLimits s _) hs
  case measurementFrame words => exact hP.receiveUin words s hs
  case stageReportFrame words => exact hP.receiveUin words s hs
  case idleFrame words => exact hP.receiveUin words s hs
  case failingUinFrame words => exact hP.receiveUin words s hs
  case upstreamLinkLoss => exact ite hs (hP.loseUpstream s hs)
  case upstreamCadenceExpiry => exact ite hs (hP.same (cadenceExpires_sameLimits s) hs)
  case uoutFrameSent => exact hP.same (uoutEnds_sameLimits s) hs
  case syncInEdge => exact ite hs (hP.same (takeEdge_sameLimits s) hs)
  case pulseEnd => exact ite hs (hP.same (withMku_sameLimits s _) hs)
  case trip p => exact ite hs (hP.tripPhase p _ (hP.countOver p true s hs))
  case lateStart index => exact hP.same (contextEvent_sameLimits _ _ index s) hs
  case gapEnd index => exact hP.same (contextEvent_sameLimits _ _ index s) hs
  case rampInEnd index => exact hP.same (contextEvent_sameLimits _ _ index s) hs
  case rampOutEnd index => exact hP.same (contextEvent_sameLimits _ _ index s) hs
  case flickerHalfChange index => exact hP.same (contextEvent_sameLimits _ _ index s) hs
  case muteRampEnd => exact ite hs (hP.muteTakes s hs)
  case unmuteRampEnd => exact ite hs (hP.muteTakes s hs)
  case heldResponsePlaced => exact hP.same (placeHeld_sameLimits s) hs
  case undefinedCommandCode code tag payload => exact ite hs (hP.commandRow _ s hs)
  case microsecondTick level => exact hP.tick level s hs

theorem exec (hP : LimitInvariant P) {i : Instr} {s t : State} (hs : P s) (h : exec i s = .next t) : P t := by
  cases hc : commandOf i with
  | some c =>
    rw [exec_of_commandOf s hc] at h
    cases h
    exact hP.commandRow c s hs
  | none => exact hP.exec_event hc hs h

/-- A step runs the front command, or idles. -/
theorem step (hP : LimitInvariant P) {s t : State} (hs : P s) (h : step s = .next t) : P t := by
  unfold Machine.step at h
  split at h
  · cases h
    exact hs
  · exact hP.exec (hP.same (withPending_sameLimits s _) hs) h

end LimitInvariant

/-! ### Mute state and M (R105 to R107) -/

/-- A ramp between two values up to `b` stays up to `b`: its quotient is at most that of the whole way from the
start to `b`. -/
theorem rampValue_le {a e n l b : Nat} (ha : a ≤ b) (he : e ≤ b) (hn : n ≤ l) (hl : 0 < l) :
    rampValue a e n l ≤ b := by
  have hway : ((e : Int) - a) * n ≤ ((b : Int) - a) * l :=
    calc ((e : Int) - a) * n ≤ ((b : Int) - a) * n := Int.mul_le_mul_of_nonneg_right (by omega) (by omega)
      _ ≤ ((b : Int) - a) * l := Int.mul_le_mul_of_nonneg_left (by omega) (by omega)
  have hquotient := Int.tdiv_le_tdiv (c := (l : Int)) (by omega) hway
  rw [Int.mul_tdiv_cancel _ (by omega)] at hquotient
  unfold rampValue
  omega

/-- What the mute state, M and the ramp of a block in or out of FAULTED obey (R99, R105). -/
def LmuLegal (faulted : Prop) (m : Lmu) : Prop :=
  (faulted ↔ m.mute = .muting ∨ m.mute = .muted) ∧
  m.factor ≤ 16384 ∧ m.rampStart ≤ 16384 ∧ m.rampStep < 32 ∧
  (m.mute = .unmuted → m.factor = 16384) ∧ (m.mute = .muted → m.factor = 0)

theorem muteLegal_iff (s : State) : MuteLegal s ↔ LmuLegal (s.sch.state = .faulted) s.lmu := .rfl

theorem muteLegal_of_same {s t : State} (hfaulted : t.sch.state = .faulted ↔ s.sch.state = .faulted)
    (hlmu : t.lmu = s.lmu) (h : MuteLegal s) : MuteLegal t := by
  rw [muteLegal_iff] at *
  rwa [hfaulted, hlmu]

theorem muteFrame_legal {faulted : Prop} {m : Lmu} (h : LmuLegal faulted m) :
    LmuLegal faulted (muteFrame m) := by
  obtain ⟨hfaulted, hfactor, hstart, hstep, -, -⟩ := h
  have hramp {e : Nat} (he : e ≤ 16384) (hn : ¬32 ≤ m.rampStep + 1) :
      rampValue m.rampStart e (m.rampStep + 1) 32 ≤ 16384 :=
    rampValue_le hstart he (by omega) (by decide)
  unfold muteFrame
  split
  · next hm => exact ⟨by simpa [hm] using hfaulted, Nat.le_refl _, hstart, hstep, fun _ => rfl, by simp [hm]⟩
  · next hm => exact ⟨by simpa [hm] using hfaulted, Nat.zero_le _, hstart, hstep, by simp [hm], fun _ => rfl⟩
  · next hm =>
    unfold muteRampStep Config.muteFrames
    dsimp only
    split
    · exact ⟨by simpa [hm] using hfaulted, Nat.zero_le _, hstart, Nat.zero_lt_succ 31, by simp, fun _ => rfl⟩
    · next hn =>
      exact ⟨by simpa [hm] using hfaulted, hramp (by decide) hn, hstart, Nat.lt_of_not_le hn, by simp, by simp⟩
  · next hm =>
    unfold muteRampStep Config.muteFrames Config.unity
    dsimp only
    split
    · exact ⟨by simpa [hm] using hfaulted, Nat.le_refl _, hstart, Nat.zero_lt_succ 31, fun _ => rfl, by simp⟩
    · next hn =>
      exact ⟨by simpa [hm] using hfaulted, hramp (by decide) hn, hstart, Nat.lt_of_not_le hn, by simp, by simp⟩

/-- The mute ramp of a call of the safety stop starts from the present M (R106). -/
theorem safetyStop_muteLegal (c : FaultCause) (s : State) (h : MuteLegal s) : MuteLegal (safetyStop c s) := by
  have hreport (t : State) (ht : MuteLegal t) : MuteLegal (reportFault c t) :=
    muteLegal_of_same (reportFault_sameLimits c t).faulted (reportFault_sameLimits c t).lmu ht
  unfold safetyStop
  split
  · exact hreport s h
  · obtain ⟨-, hfactor, -⟩ := h
    exact hreport _ ⟨iff_of_true rfl (.inl rfl), hfactor, hfactor, Nat.zero_lt_succ 31, by simp [startMute],
      by simp [startMute]⟩

/-- The unmute ramp of a CLEAR_FAULT in FAULTED starts from the present M (R107). -/
theorem arriveClearFault_muteLegal (s : State) (h : MuteLegal s) : MuteLegal (arriveClearFault s).2 := by
  unfold arriveClearFault
  split
  · split
    · obtain ⟨-, hfactor, -⟩ := h
      exact ⟨by simp [startUnmute], hfactor, hfactor, Nat.zero_lt_succ 31, by simp [startUnmute], by simp [startUnmute]⟩
    · exact h
  · exact muteLegal_of_same .rfl rfl h

theorem arriveResetEngine_muteLegal (s : State) (h : MuteLegal s) : MuteLegal (arriveResetEngine s).2 := by
  unfold arriveResetEngine
  split
  · exact h
  · next hs => exact muteLegal_of_same (iff_of_false (by simp [resetEngineNow]) hs) rfl h

theorem writeNumber_state_lmu (i v : Nat) (s : State) :
    (writeNumber i v s).sch.state = s.sch.state ∧ (writeNumber i v s).lmu = s.lmu := by
  unfold writeNumber writePlanBase writeFoldFloor
  repeat' split
  all_goals exact ⟨rfl, rfl⟩

/-- SET_PARAM moves neither the mute state nor M, nor does it touch the scheduler state. -/
theorem setParamTo_state_lmu (i : Nat) (w : Word) (s : State) :
    (setParamTo i w s).2.sch.state = s.sch.state ∧ (setParamTo i w s).2.lmu = s.lmu := by
  unfold setParamTo
  split
  · exact ⟨rfl, rfl⟩
  split
  · unfold writeTripAction
    repeat' split
    all_goals exact ⟨rfl, rfl⟩
  split
  · split <;> exact ⟨rfl, rfl⟩
  split
  · unfold writeSyncOffset
    split <;> exact ⟨rfl, rfl⟩
  split
  · split <;> exact ⟨rfl, rfl⟩
  split
  · exact writeNumber_state_lmu i _ s
  · exact ⟨rfl, rfl⟩

theorem muteLegal_limitInvariant : LimitInvariant MuteLegal where
  same h := muteLegal_of_same h.faulted h.lmu
  setParam i w s h := by
    obtain ⟨hstate, hlmu⟩ := setParamTo_state_lmu i w s
    exact muteLegal_of_same (by rw [hstate]) hlmu h
  resetEngine := arriveResetEngine_muteLegal
  clearFault := arriveClearFault_muteLegal
  reset := by
    refine ⟨?_, ?_⟩ <;> simp [State.reset]
  muteTakes s := muteFrame_legal
  emit l s h := h
  safetyStop := safetyStop_muteLegal
  setWatch p c s _ h := h

/-- Settles O8: the mute state moves to MUTING with FAULTED alone and leaves it with CLEAR_FAULT, and a ramp
stays between its ends. -/
theorem everyStepKeepsTheMuteStateWithTheSafetyStop :
    Obligations.EveryStepKeepsTheMuteStateWithTheSafetyStop :=
  fun _ _ hs h => muteLegal_limitInvariant.step hs h

/-! ### Parameters and gains (R109, R115, R116, R157) -/

theorem get_set {α : Type} (x : PerPhase α) (p q : Phase) (v : α) :
    (x.set p v).get q = if q = p then v else x.get q := by
  cases p <;> cases q <;> rfl

theorem get_map {α β : Type} (f : α → β) (x : PerPhase α) (p : Phase) : (x.map f).get p = f (x.get p) := by
  cases p <;> rfl

/-- A property of every phase's value is kept by writing a value that has it. -/
theorem forall_get_set {α : Type} {Q : α → Prop} {x : PerPhase α} (p : Phase) {v : α}
    (hx : ∀ q, Q (x.get q)) (hv : Q v) (q : Phase) : Q ((x.set p v).get q) := by
  rw [get_set]
  split
  · exact hv
  · exact hx q

theorem foldLegal_of_same {s t : State} (hcw : t.cw = s.cw) (hpar : t.par = s.par) (h : FoldLegal s) :
    FoldLegal t := by
  unfold FoldLegal ParamsInRange at *
  rwa [hcw, hpar]

/-- New gains, each in range where the phase's gain was. -/
theorem withCw_map_foldLegal (f : CwPhase → CwPhase) (s : State)
    (hf : ∀ c, GainInRange s.par c → GainInRange s.par (f c)) (h : FoldLegal s) :
    FoldLegal (s.withCw (s.cw.map f)) := by
  obtain ⟨hpar, hgain⟩ := h
  refine ⟨hpar, fun p => ?_⟩
  simp only [State.withCw_cw, get_map]
  exact hf _ (hgain p)

theorem setWatch_foldLegal (p : Phase) (c : CwPhase) (s : State)
    (hc : GainInRange s.par (s.cw.get p) → GainInRange s.par c) (h : FoldLegal s) :
    FoldLegal (setWatch p c s) := by
  obtain ⟨hpar, hgain⟩ := h
  exact ⟨hpar, forall_get_set p hgain (hc (hgain p))⟩

theorem safetyStop_foldLegal (c : FaultCause) (s : State) (h : FoldLegal s) : FoldLegal (safetyStop c s) := by
  unfold safetyStop
  split
  · exact foldLegal_of_same (reportFault_sameLimits c s).cw (reportFault_sameLimits c s).par h
  · exact foldLegal_of_same (reportFault_sameLimits c _).cw (reportFault_sameLimits c _).par h

theorem arriveClearFault_foldLegal (s : State) (h : FoldLegal s) : FoldLegal (arriveClearFault s).2 := by
  have hrelease (c : CwPhase) : GainInRange s.par c → GainInRange s.par (releaseSafe s.par.tripAction c) := by
    unfold releaseSafe
    split <;> exact id
  unfold arriveClearFault
  split
  · split
    · exact withCw_map_foldLegal _ _ hrelease h
    · exact h
  · exact h

theorem arriveResetEngine_foldLegal (s : State) (h : FoldLegal s) : FoldLegal (arriveResetEngine s).2 := by
  unfold arriveResetEngine
  split
  · exact h
  · obtain ⟨hpar, hgain⟩ := h
    refine ⟨hpar, fun p => ?_⟩
    have hrest := unity_inRange (hgain p) 0 false
    cases p <;> exact hrest

theorem clamp_bounds {lo hi : Nat} (h : lo ≤ hi) (v : Nat) : lo ≤ clamp lo hi v ∧ clamp lo hi v ≤ hi := by
  unfold clamp; omega

theorem writeFoldFloor_foldLegal (v : Nat) (s : State) (hv : v ≤ 16384) (h : FoldLegal s) :
    FoldLegal (writeFoldFloor v s) := by
  obtain ⟨⟨hpeak, hslew, hoffset, hilim, hqual, hstep, -, hsync⟩, hgain⟩ := h
  refine ⟨⟨hpeak, hslew, hoffset, hilim, hqual, hstep, hv, hsync⟩, fun p => ?_⟩
  obtain ⟨-, htop⟩ := hgain p
  simp only [writeFoldFloor, State.withCw_cw, get_map]
  exact ⟨Nat.le_max_right _ _, Nat.max_le.2 ⟨htop, hv⟩⟩

theorem writeTripAction_foldLegal (a : TripAction) (s : State) (h : FoldLegal s) :
    FoldLegal (writeTripAction a s) := by
  unfold writeTripAction
  split
  · exact h
  · exact withCw_map_foldLegal restKeepingCount (s.withPar { s.par with tripAction := a })
      (fun c hc => unity_inRange hc c.overs false) h

theorem writeSyncOffset_foldLegal (w : Word) (s : State) (h : FoldLegal s) :
    FoldLegal (writeSyncOffset w s).2 := by
  have hs := h
  obtain ⟨⟨hpeak, hslew, hoffset, hilim, hqual, hstep, hfloor, hsync, -⟩, hgain⟩ := h
  have hpar {o : Option Nat} (ho : ∀ n, o = some n → n ≤ 255) :
      FoldLegal (s.withPar { s.par with syncOffset := o }) :=
    ⟨⟨hpeak, hslew, hoffset, hilim, hqual, hstep, hfloor, hsync, ho⟩, hgain⟩
  unfold writeSyncOffset
  split
  · obtain ⟨-, htop⟩ := clamp_bounds (Nat.zero_le 255) (lo16 w)
    exact hpar (fun n hn => Option.some.inj hn ▸ htop)
  · exact hpar (fun n hn => nomatch hn)
  · exact hs

/-- A number within the range of its parameter, as SET_PARAM clamps it, leaves the parameters in their ranges. -/
theorem writeNumber_foldLegal {i v lo hi : Nat} (hrange : numberRange i = some (lo, hi))
    (hv : lo ≤ v ∧ v ≤ hi) (s : State) (h : FoldLegal s) : FoldLegal (writeNumber i v s) := by
  have hs := h
  obtain ⟨⟨hpeak, hslew, hoffset, hilim, hqual, hstep, hfloor, hsync, hsyncOffset⟩, hgain⟩ := h
  obtain ⟨hlo, hhi⟩ := hv
  unfold numberRange at hrange
  unfold writeNumber
  by_cases hi : i ≤ 2
  · rw [if_pos hi] at hrange ⊢
    cases hrange
    exact ⟨⟨forall_get_set (Q := (· ≤ 131071)) _ hpeak hhi, hslew, hoffset, hilim, hqual, hstep, hfloor, hsync,
      hsyncOffset⟩, hgain⟩
  rw [if_neg hi] at hrange ⊢
  by_cases hi : i ≤ 5
  · rw [if_pos hi] at hrange ⊢
    cases hrange
    exact ⟨⟨hpeak, forall_get_set (Q := fun n => 1 ≤ n ∧ n ≤ 262143) _ hslew ⟨hlo, hhi⟩, hoffset, hilim, hqual,
      hstep, hfloor, hsync, hsyncOffset⟩, hgain⟩
  rw [if_neg hi] at hrange ⊢
  by_cases hi : i ≤ 8
  · rw [if_pos hi] at hrange ⊢
    cases hrange
    exact ⟨⟨hpeak, hslew, forall_get_set (Q := (· ≤ 65535)) _ hoffset hhi, hilim, hqual, hstep, hfloor, hsync,
      hsyncOffset⟩, hgain⟩
  rw [if_neg hi] at hrange ⊢
  by_cases hi : i = 9
  · rw [if_pos hi]
    unfold writePlanBase
    split <;> exact hs
  rw [if_neg hi] at hrange ⊢
  by_cases hi : i ≤ 12
  · rw [if_pos hi] at hrange ⊢
    cases hrange
    exact ⟨⟨hpeak, hslew, hoffset, forall_get_set (Q := (· ≤ 131071)) _ hilim hhi, hqual, hstep, hfloor, hsync,
      hsyncOffset⟩, hgain⟩
  rw [if_neg hi] at hrange ⊢
  by_cases hi : i = 13
  · rw [if_pos hi] at hrange ⊢
    cases hrange
    exact ⟨⟨hpeak, hslew, hoffset, hilim, ⟨hlo, hhi⟩, hstep, hfloor, hsync, hsyncOffset⟩, hgain⟩
  rw [if_neg hi] at hrange ⊢
  by_cases hi : i = 15
  · rw [if_pos hi] at hrange ⊢
    cases hrange
    exact ⟨⟨hpeak, hslew, hoffset, hilim, hqual, ⟨hlo, hhi⟩, hfloor, hsync, hsyncOffset⟩, hgain⟩
  rw [if_neg hi] at hrange ⊢
  by_cases hi : i = 16
  · rw [if_pos hi] at hrange ⊢
    cases hrange
    exact writeFoldFloor_foldLegal v s hhi hs
  rw [if_neg hi] at hrange ⊢
  by_cases hi : i = 17
  · rw [if_pos hi] at hrange ⊢
    cases hrange
    exact ⟨⟨hpeak, hslew, hoffset, hilim, hqual, hstep, hfloor, ⟨hlo, hhi⟩, hsyncOffset⟩, hgain⟩
  rw [if_neg hi] at hrange
  cases hrange

theorem numberRange_le {i lo hi : Nat} (h : numberRange i = some (lo, hi)) : lo ≤ hi := by
  unfold numberRange at h
  repeat' split at h
  all_goals cases h
  all_goals decide

theorem setParamTo_foldLegal (i : Nat) (w : Word) (s : State) (h : FoldLegal s) :
    FoldLegal (setParamTo i w s).2 := by
  unfold setParamTo
  split
  · exact h
  split
  · split
    · exact writeTripAction_foldLegal _ s h
    · exact h
  split
  · split
    · exact h
    · exact h
  split
  · exact writeSyncOffset_foldLegal w s h
  split
  · split
    · exact h
    · exact h
  split
  · next lo hi hrange =>
    exact writeNumber_foldLegal hrange (clamp_bounds (numberRange_le hrange) _) s h
  · exact h

theorem foldLegal_limitInvariant : LimitInvariant FoldLegal where
  same h := foldLegal_of_same h.cw h.par
  setParam := setParamTo_foldLegal
  resetEngine := arriveResetEngine_foldLegal
  clearFault := arriveClearFault_foldLegal
  reset := by
    refine ⟨⟨?_, ?_, ?_, ?_, by decide, by decide, by decide, by decide, by decide⟩, ?_⟩ <;>
      intro p <;> cases p <;> decide
  muteTakes s h := h
  emit l s h := h
  safetyStop := safetyStop_foldLegal
  setWatch := setWatch_foldLegal

/-- Settles O9: SET_PARAM clamps what it writes, FOLD_FLOOR raises the gains below it, and a fold step stays
between the floor and 16384. -/
theorem everyStepKeepsTheFoldBackGainsInRange : Obligations.EveryStepKeepsTheFoldBackGainsInRange :=
  fun _ _ hs h => foldLegal_limitInvariant.step hs h

end Sys2Proof.OutputLimits

namespace Sys2Proof.OutputLimits

open Sys2Proof.Machine Sys2Proof.Safety Sys2Proof.EventDescriptors

/-! ### Emitted samples (R100, R101) -/

theorem peakStage_bounds (y : Int) (peak : Nat) :
    -(peak : Int) ≤ peakStage y peak ∧ peakStage y peak ≤ peak := by
  unfold peakStage
  split
  · omega
  split <;> omega

theorem slewStage_bounds (raw prev : Int) (slew : Nat) :
    slewStage raw prev slew - prev ≤ slew ∧ prev - slewStage raw prev slew ≤ slew := by
  unfold slewStage
  split
  · omega
  split <;> omega

/-- The peak stage brings no value further from a sample within the peak limit. -/
theorem peakStage_nearer {y prev : Int} {slew peak : Nat} (hlo : -(peak : Int) ≤ prev) (hhi : prev ≤ peak)
    (hy : y - prev ≤ slew ∧ prev - y ≤ slew) :
    peakStage y peak - prev ≤ slew ∧ prev - peakStage y peak ≤ slew := by
  unfold peakStage
  split
  · omega
  split <;> omega

/-- Commands leave the previous outputs alone; CLEAR_FAULT starts a ramp of M. -/
theorem yPrev_commandInvariant (y : PerPhase Int) : CommandInvariant (fun s => s.lmu.yPrev = y) where
  same h hs := by rwa [h.lmu]
  setParam i w s hs := by
    obtain ⟨-, hlmu⟩ := setParamTo_state_lmu i w s
    rwa [hlmu]
  resetEngine s hs := by
    unfold arriveResetEngine
    split <;> exact hs
  clearFault s hs := by
    unfold arriveClearFault
    split
    · split <;> exact hs
    · exact hs

theorem frameWork_par (p : Presented) (f : FrameInfo) (n : Nat) (s : State) :
    (frameWork p f n s).par = s.par := by
  have hcore : (frameCore f n s).par = s.par :=
    (SampleComputation.saturationFlags_only _ _).par.trans (SampleComputation.framePrep_only f n s).par
  exact (((runAll_sameLimits f _ _).trans (endStepIf_sameLimits _ _)).trans
    (sendOutput_sameLimits p _ _ _)).par.trans hcore

theorem respondIfAny_sameLimits (a : Option (Cmd × Answer)) (s : State) : SameLimits s (respondIfAny a s) := by
  unfold respondIfAny
  split
  · exact respond_sameLimits _ _ s
  · exact .refl s

/-- A presented frame emits what slew and peak limit make of some raw output, the limits as a command that
completes on the frame leaves them. -/
theorem presentFrame_sample (p : Presented) (s : State) (q : Phase) :
    ∃ raw, (presentFrame p s).lmu.yPrev.get q =
      (limitPhase raw (s.lmu.yPrev.get q) ((presentFrame p s).par.slew.get q)
        ((presentFrame p s).par.peak.get q)).y := by
  have hprev : (trackFrame (shownAs p s) (arrival p s).1).2.lmu.yPrev = s.lmu.yPrev :=
    (congrArg Lmu.yPrev (trackFrame_sameLimits _ _).lmu).trans
      ((yPrev_commandInvariant s.lmu.yPrev).arrival p s rfl)
  have hlast := respondIfAny_sameLimits (arrival p s).2
    (frameWork p (trackFrame (shownAs p s) (arrival p s).1).1 s.cx.set.length
      (trackFrame (shownAs p s) (arrival p s).1).2)
  unfold presentFrame
  dsimp only
  rw [hlast.par, hlast.lmu, frameWork_par, SampleComputation.frameWork_lmu, SampleComputation.frameCore_lmu,
    ← hprev]
  dsimp only
  rw [get_map, SampleComputation.frameLimits_y]
  exact ⟨_, rfl⟩

/-- A SAMPLE frame, good or failing, is presented. -/
theorem exec_sampleFrame {ws : List Word} {s : State} (hone : oneFrame ws = true) (hdin : s.dsr.din = .header)
    (htype : headerType (ws.headD 0) ≠ typeCommand) :
    exec (.sampleFrame ws) s =
      .next (presentFrame (if dinGood ws then .good (readSample ws) else .failing) s) := by
  have hframe : receiveDin ws s = presentFrame (if dinGood ws then .good (readSample ws) else .failing) s := by
    rw [receiveDin_whole ws s hone hdin, dinFrame, if_neg htype]
    split <;> rfl
  exact congrArg Host.Outcome.next hframe

theorem exec_selfGeneratedFrame {s : State} (hlink : s.dsr.link ≠ .up) (htimer : s.dsr.selfTimer = some 1) :
    exec .selfGeneratedFrame s = .next (selfFrame s) := by
  have hdue : selfFrameDue s = true := by simp [selfFrameDue, hlink, htimer, runsOut]
  exact congrArg Host.Outcome.next (if_pos hdue)

/-- Settles O20: the peak stage bounds every sample, and moves none away from a previous one within the peak
limit. -/
theorem emittedSamplesKeepThePeakAndSlewLimits : Obligations.EmittedSamplesKeepThePeakAndSlewLimits := by
  intro ws s t q h
  have hsample : ∃ raw, t.lmu.yPrev.get q =
      peakStage (slewStage raw (s.lmu.yPrev.get q) (t.par.slew.get q)) (t.par.peak.get q) := by
    obtain ⟨hone, hdin, htype, hexec⟩ | ⟨hlink, htimer, hexec⟩ := h
    · rw [exec_sampleFrame hone hdin htype] at hexec
      cases hexec
      exact presentFrame_sample _ s q
    · rw [exec_selfGeneratedFrame hlink htimer] at hexec
      cases hexec
      exact presentFrame_sample .selfGenerated _ q
  obtain ⟨raw, hsample⟩ := hsample
  rw [hsample]
  obtain ⟨hlo, hhi⟩ := peakStage_bounds (slewStage raw (s.lmu.yPrev.get q) (t.par.slew.get q)) (t.par.peak.get q)
  exact ⟨hlo, hhi, fun hprevLo hprevHi => peakStage_nearer hprevLo hprevHi (slewStage_bounds _ _ _)⟩

/-! ### A phase trips (R111 to R114, R121) -/

theorem overAfter_eq_countAfter (above : Bool) (n : Nat) : overAfter above n = countAfter above n := by
  unfold overAfter countAfter
  split
  · split <;> omega
  · rfl

theorem foldDown_eq_stepDown (par : Params) (fold : Nat) :
    foldDown fold par.foldStep par.foldFloor = stepDown par fold := by
  unfold foldDown stepDown
  split <;> omega

theorem set_set {α : Type} (x : PerPhase α) (p : Phase) (v w : α) : (x.set p v).set p w = x.set p w := by
  cases p <;> rfl

/-- All that a call of the safety stop does. -/
theorem safetyStop_eq_faulted (c : FaultCause) (s : State) :
    safetyStop c s = raise (.fault (faultDetails c s)) (faulted c s) := by
  unfold safetyStop faulted
  split
  · next h => rw [reportFault]; rfl
  · rfl

theorem flagIsSet_flagsWith_self (flags : BitVec 23) (f : Flag) : flagIsSet (flagsWith flags f) f = true := by
  have hmask : (flagMask f).getLsbD (flagBit f) = true := by
    cases f with
    | clip p => cases p <;> decide
    | slew p => cases p <;> decide
    | trip p => cases p <;> decide
    | _ => decide
  simp only [flagIsSet, flagsWith, BitVec.getLsbD_or, hmask, Bool.or_true]

theorem flagIsSet_flagsWith_of_set (flags : BitVec 23) (f g : Flag) (h : flagIsSet flags f = true) :
    flagIsSet (flagsWith flags g) f = true := by
  unfold flagIsSet at *
  simp only [flagsWith, BitVec.getLsbD_or, h, Bool.true_or]

/-- The fault record stands, and every flag that was set stays set. -/
structure FaultAndFlagsStand (s t : State) : Prop where
  fault : t.sch.fault = s.sch.fault
  flags : ∀ f, flagIsSet s.flags f = true → flagIsSet t.flags f = true

namespace FaultAndFlagsStand

theorem refl (s : State) : FaultAndFlagsStand s s := ⟨rfl, fun _ h => h⟩

theorem trans {s t u : State} (h : FaultAndFlagsStand s t) (k : FaultAndFlagsStand t u) :
    FaultAndFlagsStand s u :=
  ⟨k.fault.trans h.fault, fun f hf => k.flags f (h.flags f hf)⟩

theorem raise (n : Notice) (s : State) : FaultAndFlagsStand s (raise n s) := by
  refine ⟨congrArg Sch.fault (raise_only n s).sch, fun f hf => ?_⟩
  unfold Machine.raise
  split
  · split
    · exact hf
    · exact flagIsSet_flagsWith_of_set s.flags f .noticeLost hf
  · exact hf

theorem stopNow (s : State) : FaultAndFlagsStand s (stopNow s) := by
  rw [stopNow_eq]
  split
  · exact ⟨rfl, fun _ h => h⟩
  · exact .refl s

theorem fire (k : Nat) (s : State) : FaultAndFlagsStand s (fire k s) := by
  have hpulse (c : Bool) (w : Nat) : FaultAndFlagsStand s (if c = true then requestPulse w s else s) := by
    split
    · exact ⟨rfl, fun _ h => h⟩
    · exact .refl s
  have hstop (c : Bool) (t : State) : FaultAndFlagsStand t (if c = true then Machine.stopNow t else t) := by
    split
    · exact stopNow t
    · exact .refl t
  have hnotice (c : Bool) (n : Notice) (t : State) : FaultAndFlagsStand t (raiseIf c n t) := by
    unfold raiseIf
    split
    · exact raise n t
    · exact .refl t
  have hmku (t : State) (m : Mku) : FaultAndFlagsStand t (t.withMku m) := ⟨rfl, fun _ h => h⟩
  unfold Machine.fire
  exact (((hpulse _ _).trans (hstop _ _)).trans (hnotice _ _ _)).trans (hmku _ _)

theorem fireMarkers (hit : MarkerCond → Bool) (s : State) : FaultAndFlagsStand s (fireMarkers hit s) := by
  have h (k : Nat) (t : State) : FaultAndFlagsStand t (fireIfHit hit k t) := by
    unfold fireIfHit
    split
    · exact fire k t
    · exact .refl t
  exact (((h 0 s).trans (h 1 _)).trans (h 2 _)).trans (h 3 _)

end FaultAndFlagsStand

/-- A phase that trips, before its trip action: TRIPPED with its count, and its flag set. -/
def markTripped (p : Phase) (s : State) : State :=
  { s with
    cw :=
      s.cw.set p { s.cw.get p with overs := countAfter true (s.cw.get p).overs, tripped := true }
    flags := flagsWith s.flags (.trip p) }

/-- The state in which the trip action begins: the TRIP notice raised and the TRIP markers fired. -/
def tripFired (p : Phase) (s : State) : State :=
  fired .trip (raise (.trip p s.par.tripAction) (markTripped p s))

theorem tripFired_eq (p : Phase) (s : State) :
    tripFired p s = fireMarkers hitTrip (raise (.trip p s.par.tripAction) (markTripped p s)) :=
  (fireMarkers_eq_fired .trip hitTrip (fun _ => rfl) _).symm

theorem tripFired_sameLimits (p : Phase) (s : State) : SameLimits (markTripped p s) (tripFired p s) := by
  rw [tripFired_eq]
  exact (raise_sameLimits _ _).trans (fireMarkers_sameLimits _ _)

theorem tripFired_stand (p : Phase) (s : State) : FaultAndFlagsStand (markTripped p s) (tripFired p s) := by
  rw [tripFired_eq]
  exact (FaultAndFlagsStand.raise _ _).trans (FaultAndFlagsStand.fireMarkers _ _)

theorem tripFired_ant (p : Phase) (s : State) : (tripFired p s).ant = s.ant := by
  rw [tripFired_eq]
  exact (fireMarkers_only _ _).ant.trans (raise_only _ _).ant

theorem tripFired_stop (p : Phase) (s : State) : StopOnly s (tripFired p s) := by
  have hmark : StopOnly s (markTripped p s) := ⟨rfl, rfl, rfl, rfl, rfl, rfl, rfl, rfl, rfl⟩
  rw [tripFired_eq]
  exact (hmark.trans (raise_only _ _).stop).trans (fireMarkers_stop _ _)

/-- The row of a trip that is due: count, mark, notice and markers, then the trip action. -/
theorem exec_trip {p : Phase} {s : State} (hnormal : (s.cw.get p).tripped = false)
    (hcount : s.par.tripQual ≤ countAfter true (s.cw.get p).overs) :
    exec (.trip p) s = .next (tripActionBegins p (tripFired p s)) := by
  have hdue : tripDue p s = true := by
    simp only [tripDue, hnormal, overAfter_eq_countAfter, hcount, decide_true, Bool.not_false, Bool.and_self]
  have hmark : setFlag (.trip p)
      (setWatch p { (countOver p true s).cw.get p with tripped := true } (countOver p true s)) =
        markTripped p s := by
    simp only [setFlag, setWatch, countOver, State.withCw_cw, State.withCw_withCw, State.withCw_flags, get_set,
      set_set, if_true, overAfter_eq_countAfter]
    rfl
  have htrip : tripPhase p (countOver p true s) = tripActionBegins p (tripFired p s) := by
    rw [tripFired_eq, ← hmark]
    rfl
  exact congrArg Host.Outcome.next ((if_pos hdue).trans htrip)

/-- A phase of the Current Watch on the frame that trips it, by the trip action (R111, R113, R114). -/
theorem watched_of_trips {par : Params} {c : CwPhase} (hnormal : c.tripped = false)
    (hcount : par.tripQual ≤ countAfter true c.overs) :
    watched true par c =
      { overs := countAfter true c.overs
        tripped := true
        fold := if par.tripAction = .foldback then stepDown par c.fold else c.fold } := by
  unfold watched
  rw [hnormal]
  dsimp only
  rw [if_neg (by decide), if_pos hcount]
  cases par.tripAction <;> rfl

/-- Under NOTIFY and FOLDBACK the action reaches the Current Watch alone. -/
theorem tripActionBegins_of_not_safe (p : Phase) {s : State} (h : s.par.tripAction ≠ .safe) :
    tripActionBegins p s = { s with cw := (tripActionBegins p s).cw } := by
  unfold tripActionBegins
  split
  · rfl
  · rfl
  · contradiction

theorem tripActionBegins_of_safe (p : Phase) {s : State} (h : s.par.tripAction = .safe) :
    tripActionBegins p s = raise (.fault (faultDetails (.trip p) s)) (faulted (.trip p) s) := by
  rw [tripActionBegins, h, safetyStop_eq_faulted]

/-- The trip action steps the gain of its phase down under FOLDBACK, and leaves the Current Watch otherwise. -/
theorem tripActionBegins_cw (p : Phase) (s : State) :
    (tripActionBegins p s).cw =
      if s.par.tripAction = .foldback then
        s.cw.set p { s.cw.get p with fold := stepDown s.par (s.cw.get p).fold }
      else s.cw := by
  unfold tripActionBegins
  split
  · next h => simp [h]
  · next h =>
    rw [if_pos h, ← foldDown_eq_stepDown]
    rfl
  · next h =>
    rw [safetyStop_eq_faulted, (raise_only _ _).cw, faulted]
    split <;> simp [h]

/-- The Current Watch after a trip: its phase as `watched` gives it, the others as they were. -/
theorem tripActionBegins_tripFired_cw {p : Phase} {s : State} (hnormal : (s.cw.get p).tripped = false)
    (hcount : s.par.tripQual ≤ countAfter true (s.cw.get p).overs) :
    (tripActionBegins p (tripFired p s)).cw = s.cw.set p (watched true s.par (s.cw.get p)) := by
  have hfired := tripFired_sameLimits p s
  have hpar : (tripFired p s).par = s.par := hfired.par
  rw [tripActionBegins_cw, hfired.cw, hpar, watched_of_trips hnormal hcount]
  simp only [markTripped, get_set, set_set, if_true]
  split <;> rfl

/-- What an entry to FAULTED or a further call of the safety stop leaves (R48, R50, R106). -/
theorem faulted_spec (c : FaultCause) (s : State) :
    (faulted c s).sch.state = .faulted ∧ (faulted c s).sch.fault = s.sch.fault.or (some (faultDetails c s)) ∧
    (s.sch.state ≠ .faulted → (faulted c s).cx.set = [] ∧ (faulted c s).lmu.mute = .muting ∧
      (faulted c s).lmu.rampStart = s.lmu.factor ∧ (faulted c s).lmu.rampStep = 0) ∧
    (faulted c s).lmu.factor = s.lmu.factor ∧ (faulted c s).lmu.yPrev = s.lmu.yPrev ∧
    (faulted c s).flags = s.flags := by
  unfold faulted
  split
  · next h => exact ⟨h, rfl, fun hs => absurd h hs, rfl, rfl, rfl⟩
  · exact ⟨rfl, rfl, fun _ => ⟨rfl, rfl, rfl, rfl⟩, rfl, rfl, rfl⟩

theorem tripActionBegins_stop (p : Phase) (s : State) : StopOnly s (tripActionBegins p s) := by
  unfold tripActionBegins
  split
  · exact .refl s
  · exact foldPhase_only p true s
  · exact safetyStop_only _ s

/-- The TRIP flag of the phase is set, whatever the trip action. -/
theorem tripActionBegins_tripFired_flag (p : Phase) (s : State) :
    flagIsSet (tripActionBegins p (tripFired p s)).flags (.trip p) = true := by
  have hfired : flagIsSet (tripFired p s).flags (.trip p) = true :=
    (tripFired_stand p s).flags (.trip p) (flagIsSet_flagsWith_self s.flags (.trip p))
  by_cases hsafe : (tripFired p s).par.tripAction = .safe
  · rw [tripActionBegins_of_safe p hsafe]
    obtain ⟨-, -, -, -, -, hflags⟩ := faulted_spec (.trip p) (tripFired p s)
    rw [← hflags] at hfired
    exact (FaultAndFlagsStand.raise _ (faulted (.trip p) (tripFired p s))).flags (.trip p) hfired
  · rw [tripActionBegins_of_not_safe p hsafe]
    exact hfired

/-- A trip under SAFE calls the safety stop with TRIP and its phase (R114, R48, R50). -/
theorem tripActionBegins_tripFired_of_safe (p : Phase) {s : State} (hsafe : s.par.tripAction = .safe) :
    tripActionBegins p (tripFired p s) =
      raise (.fault (faultDetails (.trip p) s)) (faulted (.trip p) (tripFired p s)) := by
  have hdetails : faultDetails (.trip p) (tripFired p s) = faultDetails (.trip p) s := by
    unfold faultDetails
    rw [tripFired_ant]
  rw [tripActionBegins_of_safe p (by rw [(tripFired_sameLimits p s).par]; exact hsafe), hdetails]

/-- The scheduler, the contexts and the mute ramp after a trip under SAFE. -/
theorem tripActionBegins_tripFired_stops (p : Phase) {s : State} (hsafe : s.par.tripAction = .safe) :
    (tripActionBegins p (tripFired p s)).sch.state = .faulted ∧
    (s.sch.fault = none →
      (tripActionBegins p (tripFired p s)).sch.fault = some (faultDetails (.trip p) s)) ∧
    (s.sch.state ≠ .faulted → (tripActionBegins p (tripFired p s)).cx.set = [] ∧
      (tripActionBegins p (tripFired p s)).lmu.mute = .muting ∧
      (tripActionBegins p (tripFired p s)).lmu.rampStart = s.lmu.factor ∧
      (tripActionBegins p (tripFired p s)).lmu.rampStep = 0) := by
  have hfired := tripFired_sameLimits p s
  have hlmu : (tripFired p s).lmu = s.lmu := hfired.lmu
  have hraise := raise_only (.fault (faultDetails (.trip p) s)) (faulted (.trip p) (tripFired p s))
  obtain ⟨hstate, hfault, hstopped, -⟩ := faulted_spec (.trip p) (tripFired p s)
  rw [tripActionBegins_tripFired_of_safe p hsafe, hraise.sch, hraise.cx, hraise.lmu]
  rw [hlmu] at hstopped
  refine ⟨hstate, fun hnone => ?_, fun hs => hstopped (fun hf => hs (hfired.faulted.1 hf))⟩
  have hempty : (tripFired p s).sch.fault = none := (tripFired_stand p s).fault.trans hnone
  rw [hfault, hempty, Option.none_or, faultDetails, tripFired_ant]
  rfl

/-- M and the previous outputs stand on the frame of a trip, whatever the trip action. -/
theorem tripActionBegins_tripFired_factor_yPrev (p : Phase) (s : State) :
    (tripActionBegins p (tripFired p s)).lmu.factor = s.lmu.factor ∧
    (tripActionBegins p (tripFired p s)).lmu.yPrev = s.lmu.yPrev := by
  have hlmu : (tripFired p s).lmu = s.lmu := (tripFired_sameLimits p s).lmu
  by_cases hsafe : (tripFired p s).par.tripAction = .safe
  · obtain ⟨-, -, -, hfactor, hprev, -⟩ := faulted_spec (.trip p) (tripFired p s)
    rw [tripActionBegins_of_safe p hsafe, (raise_only _ _).lmu, hfactor, hprev, hlmu]
    exact ⟨rfl, rfl⟩
  · rw [tripActionBegins_of_not_safe p hsafe, hlmu]
    exact ⟨rfl, rfl⟩

/-- Settles O36: the mark, the notice and the firing leave fault record, mute state and limits alone, so that the
action finds them as they were. -/
theorem tripTakesTheActionInForce : Obligations.TripTakesTheActionInForce := by
  intro p s hnormal hcount
  have hfired := tripFired_sameLimits p s
  have hlmu : (tripFired p s).lmu = s.lmu := hfired.lmu
  have hstop := (tripFired_stop p s).trans (tripActionBegins_stop p _)
  have hcw := tripActionBegins_tripFired_cw hnormal hcount
  have hphase (q : Phase) := (congrArg (PerPhase.get · q) hcw).trans (get_set _ p q _)
  have hmine := (hphase p).trans (if_pos rfl)
  have hothers (q : Phase) (hq : q ≠ p) := (hphase q).trans (if_neg hq)
  obtain ⟨hfactor, hprev⟩ := tripActionBegins_tripFired_factor_yPrev p s
  have hnotSafe (h : s.par.tripAction ≠ .safe) :=
    tripActionBegins_of_not_safe p (s := tripFired p s) (by rw [hfired.par]; exact h)
  refine ⟨_, exec_trip hnormal hcount, hmine, ?_, hothers, tripActionBegins_tripFired_flag p s,
    tripActionBegins_tripFired_stops p, fun h => ?_, hstop.ant, hstop.edt, hstop.ring, hstop.sau, hstop.dsr,
    hstop.up, hstop.cmx, hstop.par, hfactor, hprev, hstop.pending, tripFired p s, rfl, hnotSafe,
    tripActionBegins_tripFired_of_safe p⟩
  · rw [hmine, watched_of_trips hnormal hcount]
  · rw [hnotSafe h]
    exact ⟨hlmu, hfired.faulted.symm⟩

/-! ### TRIP_ACTION and FOLD_FLOOR (R115, R116, R159) -/

theorem tripActionOfCode_eq_some (a : TripAction) : tripActionOfCode (tripActionCode a) = some a := by
  cases a <;> rfl

theorem tripActionOfCode_eq_none {n : Nat} (h : 2 < n) : tripActionOfCode n = none := by
  obtain ⟨k, rfl⟩ := Nat.exists_eq_add_of_lt h
  rw [show 2 + k + 1 = k + 3 by omega]
  rfl

theorem setParamTo_tripAction (v : Word) (s : State) :
    setParamTo 14 v s =
      match tripActionOfCode v.toNat with
      | some a => (.ok, writeTripAction a s)
      | none => (.badField, s) := rfl

theorem setParamTo_tripAction_of_code {v : Word} {a : TripAction} (ha : tripActionCode a = v.toNat) (s : State) :
    setParamTo 14 v s = (.ok, writeTripAction a s) := by
  rw [setParamTo_tripAction, ← ha, tripActionOfCode_eq_some]

theorem setParamTo_foldFloor (v : Word) (s : State) :
    setParamTo 16 v s = (clampStatus 0 16384 v.toNat, writeFoldFloor (clamp 0 16384 v.toNat) s) := rfl

theorem setTripAction_answers {tag : Tag} {v : Word} {s t : State} {st : Status}
    (ht : Takes ⟨codeSetParam, tag, [14, v]⟩ s) (h : setParamTo 14 v s = (st, t)) :
    exec (.setTripAction tag v) s = .next (answered ⟨codeSetParam, tag, [14, v]⟩ st [] t) := by
  have ha := commandArrives_setParam tag 14 v s
  rw [show (14 : Word).toNat = 14 from rfl, h] at ha
  exact exec_of_fixed rfl ht ha

/-- Settles O50: the two writes of SET_PARAM that reach the Current Watch at once. -/
theorem tripActionAndFoldFloorReachTheGains : Obligations.TripActionAndFoldFloorReachTheGains := by
  intro tag v s
  refine ⟨fun ht => ⟨fun a ha hsame => ?_, fun a ha hother => ?_, fun hundefined => ?_⟩, fun ht => ?_⟩
  · refine setTripAction_answers ht ?_
    rw [setParamTo_tripAction_of_code ha, writeTripAction, if_pos hsame]
  · refine setTripAction_answers ht ?_
    rw [setParamTo_tripAction_of_code ha, writeTripAction, if_neg hother]
    rfl
  · refine setTripAction_answers ht ?_
    rw [setParamTo_tripAction, tripActionOfCode_eq_none hundefined]
  · have ha := commandArrives_setParam tag 16 v s
    rw [show (16 : Word).toNat = 16 from rfl, setParamTo_foldFloor, clampStatus_zero, clamp_zero] at ha
    exact exec_of_fixed rfl ht ha

/-! ### Events that are due, and events that are not (log 2) -/

/-- A row whose event is not due answers the same state. -/
theorem next_ite_of_not {c : Prop} [Decidable c] (t s : State) (h : ¬c) :
    (Host.Outcome.next (if c then t else s) : Host.Outcome State Fault Refusal) = .next s :=
  congrArg Host.Outcome.next (if_neg h)

theorem next_ite_of {c : Prop} [Decidable c] (t s : State) (h : c) :
    (Host.Outcome.next (if c then t else s) : Host.Outcome State Fault Refusal) = .next t :=
  congrArg Host.Outcome.next (if_pos h)

theorem muteRampStep_last (e : Nat) (done running : Mute) {m : Lmu} (h : m.rampStep = 31) :
    muteRampStep e done running m = { m with factor := e, mute := done, rampStep := 0 } := by
  unfold muteRampStep
  rw [h]
  rfl

theorem muteRampDue_last {m : Mute} {s : State} (hm : s.lmu.mute = m) (hstep : s.lmu.rampStep = 31) :
    muteRampDue m s = true := by
  unfold muteRampDue
  rw [hm, hstep, beq_self_eq_true]
  rfl

/-- Settles O35: a pulse's last tick, and a ramp's thirty-second frame. -/
theorem pulseAndMuteRampsRunOut : Obligations.PulseAndMuteRampsRunOut := by
  intro s
  refine ⟨fun hpulse => ?_, fun hmute hstep => ?_, fun hmute hstep => ?_⟩
  · refine (next_ite_of _ s hpulse).trans ?_
    rw [pulseTick, hpulse]
    rfl
  · refine (next_ite_of _ s (muteRampDue_last hmute hstep)).trans ?_
    rw [muteTakes, muteFrame, hmute]
    dsimp only
    rw [muteRampStep_last _ _ _ hstep]
    rfl
  · refine (next_ite_of _ s (muteRampDue_last hmute hstep)).trans ?_
    rw [muteTakes, muteFrame, hmute]
    dsimp only
    rw [muteRampStep_last _ _ _ hstep]
    rfl

theorem contextEvent_of_absent (f : FrameInfo) (due : Ctx → Bool) {i : Nat} {s : State}
    (h : findCtx s.cx.set i = none) : contextEvent f due i s = s := by
  rw [contextEvent, h]

theorem doutEnds_of_nothing {d : Dsr} (h : d.sending = .nothing) : doutEnds d = d := by
  rw [doutEnds, h]

theorem uoutEnds_of_none {s : State} (h : s.up.sending = none) : uoutEnds s = s := by
  rw [uoutEnds, h]

/-- Settles O42: each row tests whether its event is due, and answers its state where it is not. -/
theorem anEventThatIsNotDueChangesNothing : Obligations.AnEventThatIsNotDueChangesNothing := by
  intro i p s
  refine ⟨fun h => ?_, fun h => ?_, fun h => ?_, fun h => ?_, fun h => ?_, fun h => ?_, fun h => ?_,
    fun h => ?_, fun h => ?_, fun h => ?_, fun h => ?_, fun h => ?_⟩
  · exact next_ite_of_not _ s (by simp [selfFrameDue, h])
  · exact next_ite_of_not _ s (by simp [downLossDue, h])
  · exact next_ite_of_not _ s (by simp [upLossDue, h])
  · exact next_ite_of_not _ s (by simp [cadenceDue, h])
  · exact next_ite_of_not _ s (by simp [edgeDue, h])
  · exact next_ite_of_not _ s h
  · exact next_ite_of_not _ s (by simp [tripDue, h])
  · exact next_ite_of_not _ s (by simp [muteRampDue, h])
  · exact next_ite_of_not _ s (by simp [muteRampDue, h])
  · exact congrArg Host.Outcome.next (congrArg s.withDsr (doutEnds_of_nothing h))
  · exact congrArg Host.Outcome.next (uoutEnds_of_none h)
  · have hsame (f : FrameInfo) (due : Ctx → Bool) :
        (Host.Outcome.next (contextEvent f due i s) : Host.Outcome State Fault Refusal) = .next s :=
      congrArg Host.Outcome.next (contextEvent_of_absent f due h)
    exact ⟨hsame _ _, hsame _ _, hsame _ _, hsame _ _, hsame _ _⟩

end Sys2Proof.OutputLimits

namespace Sys2Proof.MarkersAndSync

open Sys2Proof.Machine Sys2Proof.Safety Sys2Proof.EventDescriptors Sys2Proof.OutputLimits

/-! ### The counts of a tick (R122, R127, R139, R140, R143) -/

theorem timerTick_eq (t : Option Nat) : timerTick t = t.map (fun n => if n ≤ 1 then n else n - 1) := by
  cases t with
  | none => rfl
  | some n => exact (apply_ite some (n ≤ 1) n (n - 1)).symm

/-- A timer that an UP link runs, with 2 or more ticks to go, falls by 1. -/
theorem ticked_of_up {link : Link} {t : Option Nat} (h : link = .up → ∃ n, 2 ≤ n ∧ t = some n) :
    ticked (link == .up) t = if link = .up then t.map (· - 1) else t := by
  by_cases hup : link = .up
  · obtain ⟨n, hn, rfl⟩ := h hup
    rw [ticked, if_pos (beq_iff_eq.2 hup), if_pos hup]
    exact congrArg some (if_neg (by omega))
  · rw [ticked, if_neg (by simp [hup]), if_neg hup]

/-- A timer that a LOST link runs, with 2 or more ticks to go, falls by 1. -/
theorem ticked_of_lost {link : Link} {t : Option Nat} (h : link ≠ .up → ∃ n, 2 ≤ n ∧ t = some n) :
    ticked (link != .up) t = if link = .up then t else t.map (· - 1) := by
  by_cases hup : link = .up
  · rw [ticked, if_neg (by simp [hup]), if_pos hup]
  · obtain ⟨n, hn, rfl⟩ := h hup
    rw [ticked, if_pos (bne_iff_ne.2 hup), if_neg hup]
    exact congrArg some (if_neg (by omega))

theorem not_at_last_tick {c : Prop} {t : Option Nat} (h : c → ∃ n, 2 ≤ n ∧ t = some n) :
    ¬(c ∧ (t = some 1 ∨ t = some 0)) := by
  rintro ⟨hc, ht⟩
  obtain ⟨n, hn, rfl⟩ := h hc
  simp only [Option.some.injEq] at ht
  omega

theorem runsOut_iff (t : Option Nat) : runsOut t = true ↔ t = some 1 ∨ t = some 0 := by
  cases t with
  | none => simp [runsOut]
  | some n =>
    simp only [runsOut, decide_eq_true_eq, Option.some.injEq]
    omega

/-- A timer that runs out is left to its row: it is due on the counted state too. -/
theorem runsOut_ticked {c : Bool} (running : Bool) {t : Option Nat} (h : (c && runsOut t) = true) :
    (c && runsOut (ticked running t)) = true := by
  obtain ⟨hc, ht⟩ := (Bool.and_eq_true _ _).mp h
  rcases (runsOut_iff t).1 ht with rfl | rfl <;> cases running <;> exact h

theorem edgeDue_iff (level : Level) (s : State) :
    edgeDue level s = true ↔ level ≠ s.mku.syncLevel ∧ s.par.syncQual ≤ s.mku.syncCount + 1 := by
  simp [edgeDue]

theorem sampleSync_eq (level : Level) (s : State) :
    sampleSync level s = s.withMku { s.mku with syncCount := (counted level s).mku.syncCount } := by
  unfold sampleSync countSample counted
  dsimp only
  by_cases hlevel : level = s.mku.syncLevel
  · rw [if_neg (by simp [edgeDue, hlevel]), if_pos hlevel, if_pos hlevel]
  · by_cases hqual : s.par.syncQual ≤ s.mku.syncCount + 1
    · rw [if_pos ((edgeDue_iff level s).2 ⟨hlevel, hqual⟩), if_neg hlevel, if_pos hqual]
      rfl
    · rw [if_neg (by simp [edgeDue, hqual]), if_neg hlevel, if_neg hlevel, if_neg hqual]

/-- The counts that do not run out, in the words of the statements. -/
theorem timersTick_sampleSync (level : Level) (s : State) :
    timersTick (sampleSync level s) = counted level s := by
  rw [sampleSync_eq]
  simp [timersTick, counted, ticked, timerTick_eq, State.withMku, State.withDsr, State.withUp]

theorem pulseDown_of_no_pulse {s : State} (h : s.mku.pulse = 0) : pulseDown s = s := by
  have hmku : { s.mku with pulse := s.mku.pulse - 1 } = s.mku :=
    congrArg (fun n => { s.mku with pulse := n }) (show s.mku.pulse - 1 = s.mku.pulse by omega)
  exact congrArg s.withMku hmku

/-! ### The parts of a tick and their rows (log 4) -/

/-- The row of the event that a part of a tick brings about. -/
def rowOf (p : TickPart) : Instr :=
  match p with
  | .pulse => .pulseEnd
  | .held => .heldResponsePlaced
  | .edge => .syncInEdge
  | .downLoss => .downstreamLinkLoss
  | .selfFrame => .selfGeneratedFrame
  | .upLoss => .upstreamLinkLoss
  | .cadence => .upstreamCadenceExpiry

theorem rowOf_eq_heldResponsePlaced {p : TickPart} (h : rowOf p = .heldResponsePlaced) : p = .held := by
  cases p <;> cases h
  rfl

/-- The parts that are due are a held response with a place and the rows whose count runs out. -/
theorem dueParts_map_rowOf (level : Level) (s : State) :
    (dueParts level s).map rowOf =
      (if heldHasPlace s then [.heldResponsePlaced] else []) ++ tickRows level s := by
  simp only [dueParts, tickRows, List.map_append, apply_ite (List.map rowOf), List.map_cons, List.map_nil, rowOf,
    edgeDue_iff, downLossDue, selfFrameDue, upLossDue, cadenceDue, Bool.and_eq_true, beq_iff_eq, bne_iff_ne,
    runsOut_iff, List.append_assoc]

/-- No response is held, or none that has a place. -/
theorem heldHasPlace_eq_false {s : State} (h : ∀ r, s.cmx.exec = .holding r → 8 ≤ s.rpq.queue.length) :
    heldHasPlace s = false := by
  unfold heldHasPlace
  split
  · next r hr => exact decide_eq_false (Nat.not_lt.2 (h r hr))
  · rfl

theorem dueParts_of_heldHasPlace {level : Level} {s : State} (hheld : heldHasPlace s = true)
    (hrows : tickRows level s = []) : dueParts level s = [.held] := by
  have hmap := dueParts_map_rowOf level s
  rw [if_pos hheld, hrows, List.append_nil, List.map_eq_singleton_iff] at hmap
  obtain ⟨p, hdue, hrow⟩ := hmap
  rw [hdue, rowOf_eq_heldResponsePlaced hrow]

theorem dueParts_map_rowOf_of_not_held (level : Level) {s : State} (hheld : heldHasPlace s = false) :
    (dueParts level s).map rowOf = tickRows level s := by
  rw [dueParts_map_rowOf, hheld]
  rfl

/-- What the rows of a tick read of the state: the two links with their timers, and the sync qualifier. -/
structure SameCounts (s t : State) : Prop where
  dsr : t.dsr = s.dsr
  up : t.up = s.up
  par : t.par = s.par
  syncLevel : t.mku.syncLevel = s.mku.syncLevel
  syncCount : t.mku.syncCount = s.mku.syncCount

/-- A part that is due is its row, in every state with the counts of the tick. -/
theorem exec_rowOf_of_due {level : Level} {s t : State} {p : TickPart} (hp : p ∈ dueParts level s)
    (ht : SameCounts (counted level s) t) : exec (rowOf p) t = .next (doTickPart p t) := by
  obtain ⟨hdsr, hup, hpar, hlevel, hcount⟩ := ht
  simp only [dueParts, List.mem_append, List.mem_ite_nil_right, List.mem_singleton] at hp
  rcases hp with ((((⟨-, rfl⟩ | ⟨hdue, rfl⟩) | ⟨hdue, rfl⟩) | ⟨hdue, rfl⟩) | ⟨hdue, rfl⟩) | ⟨hdue, rfl⟩
  · rfl
  · obtain ⟨hother, hqual⟩ := (edgeDue_iff level s).1 hdue
    have hdiffers (l : Level) : otherLevel l ≠ l := by cases l <;> decide
    refine next_ite_of _ t ((edgeDue_iff _ t).2 ⟨hdiffers _, ?_⟩)
    rw [hcount, hpar]
    simpa only [counted, if_neg hother, if_pos hqual] using hqual
  · exact next_ite_of _ t (by rw [downLossDue, hdsr]; exact runsOut_ticked _ hdue)
  · exact next_ite_of _ t (by rw [selfFrameDue, hdsr]; exact runsOut_ticked _ hdue)
  · exact next_ite_of _ t (by rw [upLossDue, hup]; exact runsOut_ticked _ hdue)
  · exact next_ite_of _ t (by rw [cadenceDue, hup]; exact runsOut_ticked _ hdue)

/-! ### Whole ticks (log 8, log 10) -/

/-- A tick on which nothing but a pulse runs. -/
theorem tick_of_no_part {level : Level} {s : State} (hdue : dueParts level s = []) :
    tick level s = pulseDown (counted level s) := by
  rw [tick, tickParts, timersTick_sampleSync, hdue]
  by_cases hpulse : s.mku.pulse = 0
  · rw [if_pos ⟨hpulse, rfl⟩]
    exact (pulseDown_of_no_pulse (s := counted level s) hpulse).symm
  · rw [if_neg (fun h => hpulse h.1)]
    rfl

/-- The counted state once the order of two parts is decided. -/
def countedOnce (level : Level) (s : State) : State :=
  { counted level s with freeCount := s.freeCount + 1 }

/-- A tick with one part beside the pulse: a free choice says which of the two comes first. -/
theorem tick_of_one_part {level : Level} {s : State} {p : TickPart} (hdue : dueParts level s = [p]) :
    tick level s = doTickPart p (pulseDown (countedOnce level s)) ∨
      tick level s = pulseDown (doTickPart p (countedOnce level s)) := by
  have hparts : tickParts level s = [.pulse, p] := by
    rw [tickParts, hdue, if_neg (fun h => List.cons_ne_nil _ _ h.2)]
  have htick : tick level s = runTick 2 [.pulse, p] (counted level s) := by
    rw [tick, hparts, timersTick_sampleSync]
    rfl
  have hchoice : (choose 2 (counted level s)).1 = 0 ∨ (choose 2 (counted level s)).1 = 1 := by
    have hlt : (choose 2 (counted level s)).1 < 2 := Nat.mod_lt _ (by decide)
    omega
  rcases hchoice with h | h
  · left
    rw [htick, runTick, List.length_nil, h]
    rfl
  · right
    rw [htick, runTick, List.length_nil, h]
    rfl

/-- A tick that brings no count to its end, with no response held. -/
theorem exec_tick_of_nothing_due {level : Level} {s : State} (hexec : ∀ r, s.cmx.exec ≠ .holding r)
    (hrows : tickRows level s = []) :
    exec (.microsecondTick level) s = .next (pulseDown (counted level s)) := by
  have hheld : heldHasPlace s = false := heldHasPlace_eq_false (fun r hr => absurd hr (hexec r))
  have hdue : dueParts level s = [] := by
    rw [← List.map_eq_nil_iff (f := rowOf), dueParts_map_rowOf_of_not_held level hheld, hrows]
  exact congrArg Host.Outcome.next (tick_of_no_part hdue)

/-- A tick on which a held response has a place and no count comes to its end: both orders answer one state. -/
theorem exec_tick_of_held {level : Level} {s : State} {r : Report} (hexec : s.cmx.exec = .holding r)
    (hroom : s.rpq.queue.length < 8) (hrows : tickRows level s = []) :
    exec (.microsecondTick level) s =
      .next
        { pulseDown (counted level s) with
          freeCount := s.freeCount + 1
          rpq := { s.rpq with queue := s.rpq.queue ++ [r] }
          cmx := afterResponse s.cmx.buffer } := by
  have hheld : heldHasPlace s = true := by
    rw [heldHasPlace, hexec]
    exact decide_eq_true hroom
  refine congrArg Host.Outcome.next ?_
  rcases tick_of_one_part (dueParts_of_heldHasPlace hheld hrows) with h | h
  · rw [h, doTickPart, placeHeld_holding r (pulseDown (countedOnce level s)) hexec]
    exact if_pos hroom
  · rw [h, doTickPart, placeHeld_holding r (countedOnce level s) hexec]
    exact congrArg pulseDown (if_pos hroom)

/-- A tick on which one count comes to its end is the row of that count, before or after the pulse falls. -/
theorem exec_tick_of_one_row {level : Level} {s : State} {row : Instr} (hheld : heldHasPlace s = false)
    (hrows : tickRows level s = [row]) :
    exec (.microsecondTick level) s = exec row (pulseDown (countedOnce level s)) ∨
      ∃ v, exec row (countedOnce level s) = .next v ∧ exec (.microsecondTick level) s = .next (pulseDown v) := by
  have hmap := dueParts_map_rowOf_of_not_held level hheld
  rw [hrows, List.map_eq_singleton_iff] at hmap
  obtain ⟨p, hdue, rfl⟩ := hmap
  have hrow (t : State) (ht : SameCounts (counted level s) t) : exec (rowOf p) t = .next (doTickPart p t) :=
    exec_rowOf_of_due (by rw [hdue]; exact List.mem_singleton_self p) ht
  rcases tick_of_one_part hdue with h | h
  · left
    rw [hrow (pulseDown (countedOnce level s)) ⟨rfl, rfl, rfl, rfl, rfl⟩]
    exact congrArg Host.Outcome.next h
  · right
    exact ⟨_, hrow (countedOnce level s) ⟨rfl, rfl, rfl, rfl, rfl⟩, congrArg Host.Outcome.next h⟩

/-- Settles O33: the parts that are due are a held response with a place and the rows whose count runs out, and
each part is its row on the counted state. -/
theorem tickCountsEveryTimer : Obligations.TickCountsEveryTimer := by
  refine ⟨fun level s hexec hsample hdown hself hup hcadence => ?_,
    fun level s r hexec hroom hrows => exec_tick_of_held hexec hroom hrows,
    fun level s u row hfull hrows hu => ?_⟩
  · have hedge : ¬(level ≠ s.mku.syncLevel ∧ s.par.syncQual ≤ s.mku.syncCount + 1) := by
      rintro ⟨hother, hqual⟩
      rcases hsample with hsame | hshort
      · exact hother hsame
      · omega
    have hrows : tickRows level s = [] := by
      rw [tickRows, if_neg hedge, if_neg (not_at_last_tick hdown), if_neg (not_at_last_tick hself),
        if_neg (not_at_last_tick hup), if_neg (not_at_last_tick hcadence)]
      rfl
    have hcount : (counted level s).mku.syncCount =
        if level = s.mku.syncLevel then 0 else s.mku.syncCount + 1 :=
      ite_congr rfl (fun _ => rfl) (fun hother => if_neg (fun hqual => hedge ⟨hother, hqual⟩))
    rw [exec_tick_of_nothing_due hexec hrows, ← ticked_of_up hdown, ← ticked_of_lost hself, ← ticked_of_up hup,
      ← ticked_of_lost hcadence, ← hcount]
    rfl
  · subst hu
    exact exec_tick_of_one_row (heldHasPlace_eq_false hfull) hrows

/-! ### SET_PARAM of a code (R129, R159, R167) -/

/-- SET_PARAM answers as its write says. -/
theorem exec_setParam {tag : Tag} {i v : Word} {s t : State} {st : Status}
    (ht : Takes ⟨codeSetParam, tag, [i, v]⟩ s) (h : setParamTo i.toNat v s = (st, t)) :
    exec (.setParam tag [i, v]) s = .next (answered ⟨codeSetParam, tag, [i, v]⟩ st [] t) := by
  have ha := commandArrives_setParam tag i v s
  rw [h] at ha
  exact exec_of_fixed rfl ht ha

theorem setParamTo_of_badIndex {i : Nat} (h : 20 < i) (v : Word) (s : State) :
    setParamTo i v s = (.badIndex, s) := if_pos h

theorem setParamTo_syncEdge (v : Word) (s : State) :
    setParamTo 18 v s =
      match syncEdgeOfCode v.toNat with
      | some e => (.ok, s.withPar { s.par with syncEdge := e })
      | none => (.badField, s) := rfl

theorem syncEdgeOfCode_syncEdgeCode (e : SyncEdge) : syncEdgeOfCode (syncEdgeCode e) = some e := by
  cases e <;> rfl

theorem syncEdgeOfCode_eq_none {n : Nat} (h : 2 < n) : syncEdgeOfCode n = none := by
  obtain ⟨k, rfl⟩ := Nat.exists_eq_add_of_le' h
  rfl

theorem setParamTo_syncOffset (v : Word) (s : State) : setParamTo 19 v s = writeSyncOffset v s := rfl

theorem writeSyncOffset_of_number {v : Word} (h : hi16 v = 0) (s : State) :
    writeSyncOffset v s =
      (if lo16 v ≤ 255 then .ok else .okClamped,
        { s with par := { s.par with syncOffset := some (min (lo16 v) 255) } }) := by
  rw [writeSyncOffset, h, clampStatus_zero, clamp_zero]
  rfl

theorem writeSyncOffset_of_none {v : Word} (h : hi16 v = 1) (s : State) :
    writeSyncOffset v s = (.ok, { s with par := { s.par with syncOffset := none } }) := by
  rw [writeSyncOffset, h]
  rfl

theorem writeSyncOffset_of_refused {v : Word} (h : 2 ≤ hi16 v) (s : State) :
    writeSyncOffset v s = (.badField, s) := by
  obtain ⟨k, hk⟩ := Nat.exists_eq_add_of_le' h
  rw [writeSyncOffset, hk]
  rfl

theorem setParamTo_notifyMask (v : Word) (s : State) :
    setParamTo 20 v s =
      if 255 < v.toNat then (.badField, s)
      else (.ok, { s with par := { s.par with notifyMask := v.setWidth 8 } }) := by
  rw [← BitVec.ofNat_toNat]
  rfl

/-- Settles O48: each parameter that is a code is read by its own table, and nothing else is written. -/
theorem setParamWritesACode : Obligations.SetParamWritesACode := by
  intro tag v s
  refine ⟨fun i hi ht => exec_setParam ht (setParamTo_of_badIndex hi v s),
    fun ht => ⟨fun e he => ?_, fun hundefined => ?_⟩,
    fun ht => ⟨fun hnumber => ?_, fun hnone => ?_, fun hrefused => ?_⟩,
    fun ht => ⟨fun hmask => ?_, fun hrefused => ?_⟩⟩
  · refine exec_setParam ht ((setParamTo_syncEdge v s).trans ?_)
    rw [← he, syncEdgeOfCode_syncEdgeCode]
    rfl
  · refine exec_setParam ht ((setParamTo_syncEdge v s).trans ?_)
    rw [syncEdgeOfCode_eq_none hundefined]
  · exact exec_setParam ht ((setParamTo_syncOffset v s).trans (writeSyncOffset_of_number hnumber s))
  · exact exec_setParam ht ((setParamTo_syncOffset v s).trans (writeSyncOffset_of_none hnone s))
  · exact exec_setParam ht ((setParamTo_syncOffset v s).trans (writeSyncOffset_of_refused hrefused s))
  · exact exec_setParam ht ((setParamTo_notifyMask v s).trans (if_neg (Nat.not_lt.2 hmask)))
  · exact exec_setParam ht ((setParamTo_notifyMask v s).trans (if_pos hrefused))

/-! ### The configuration of a marker (R119, R125) -/

theorem readCond_undefined {code : Nat} (h : 6 < code) (a : Nat) : readCond code a = .badField := by
  obtain ⟨k, rfl⟩ := Nat.exists_eq_add_of_le' h
  rfl

theorem readCond_badIndex {code a : Nat} (hcode : code = 2 ∨ code = 3) (ha : 255 < a) :
    readCond code a = .badIndex := by
  rcases hcode with rfl | rfl <;> exact if_pos ha

theorem readCond_clip_badField {a : Nat} (h : a = 0 ∨ 7 < a) : readCond 4 a = .badField :=
  if_pos (by simp only [Bool.or_eq_true, beq_iff_eq, decide_eq_true_eq]; omega)

theorem readCond_clip {a : Nat} (h : 1 ≤ a ∧ a ≤ 7) : readCond 4 a = .ok (.clip (BitVec.ofNat 3 a)) :=
  if_neg (by simp only [Bool.or_eq_true, beq_iff_eq, decide_eq_true_eq]; omega)

/-- A condition with an argument in its range is read from its code and argument. -/
theorem readCond_condCode {cond : MarkerCond} {a : Nat} (ha : condCode cond ≤ 4 → condArgument cond = a)
    (hclip : condCode cond = 4 → 1 ≤ a ∧ a ≤ 7) (hindex : condCode cond = 2 ∨ condCode cond = 3 → a ≤ 255) :
    readCond (condCode cond) a = .ok cond := by
  cases cond with
  | none => rfl
  | cycle v => exact congrArg (fun v => CondRead.ok (.cycle v)) (ha (show 1 ≤ 4 by decide)).symm
  | descStart d =>
    obtain rfl := ha (show 2 ≤ 4 by decide)
    exact if_neg (Nat.not_lt.2 (hindex (.inl rfl)))
  | descEnd d =>
    obtain rfl := ha (show 3 ≤ 4 by decide)
    exact if_neg (Nat.not_lt.2 (hindex (.inr rfl)))
  | clip m =>
    obtain rfl := ha (show 4 ≤ 4 by decide)
    rw [condCode, readCond_clip (hclip rfl), condArgument, BitVec.ofNat_toNat, BitVec.setWidth_eq]
  | trip => rfl
  | sync => rfl

/-- Every code from 1 to 6 with an argument that R125 does not refuse names a condition. -/
theorem readCond_defined {code a : Nat} (hlo : 1 ≤ code) (hhi : code ≤ 6)
    (hindex : ¬((code = 2 ∨ code = 3) ∧ 255 < a)) (hclip : ¬(code = 4 ∧ (a = 0 ∨ 7 < a))) :
    ∃ cond, readCond code a = .ok cond ∧ cond ≠ .none := by
  match code with
  | 1 => exact ⟨.cycle a, rfl, fun h => nomatch h⟩
  | 2 => exact ⟨.descStart a, if_neg (fun ha => hindex ⟨.inl rfl, ha⟩), fun h => nomatch h⟩
  | 3 => exact ⟨.descEnd a, if_neg (fun ha => hindex ⟨.inr rfl, ha⟩), fun h => nomatch h⟩
  | 4 => exact ⟨.clip (BitVec.ofNat 3 a), readCond_clip (by omega), fun h => nomatch h⟩
  | 5 => exact ⟨.trip, rfl, fun h => nomatch h⟩
  | 6 => exact ⟨.sync, rfl, fun h => nomatch h⟩
  | 0 => omega
  | _ + 7 => omega

section
variable {w0 w1 : Word}

theorem readMarkerConfig_badField (h : readCond (field w0 24 8) (hi16 w1) = .badField) :
    readMarkerConfig w0 w1 = .error .badField := by
  rw [readMarkerConfig, h]

theorem readMarkerConfig_badIndex (h : readCond (field w0 24 8) (hi16 w1) = .badIndex) :
    readMarkerConfig w0 w1 = .error .badIndex := by
  rw [readMarkerConfig, h]

theorem readMarkerConfig_none (h : field w0 24 8 = 0) :
    readMarkerConfig w0 w1 = .ok Marker.disabledMarker := by
  rw [readMarkerConfig, h]
  rfl

/-- A condition that is read leaves actions, mode and width to be tested. -/
theorem readMarkerConfig_of_cond {cond : MarkerCond} (h : readCond (field w0 24 8) (hi16 w1) = .ok cond)
    (hcond : cond ≠ .none) :
    readMarkerConfig w0 w1 =
      if field w0 16 8 = 0 ∨ 7 < field w0 16 8 ∨ 1 < field w0 8 8 ∨ lo16 w1 = 0 ∨ 255 < lo16 w1 then
        .error .badField
      else
        .ok
          { state := .armed, cond := cond, actions := BitVec.ofNat 3 (field w0 16 8)
            mode := if field w0 8 8 = 0 then .once else .every, width := lo16 w1 } := by
  unfold readMarkerConfig
  split
  · next hread => rw [h] at hread; cases hread
  · next hread => rw [h] at hread; cases hread
  · next hread => rw [h] at hread; cases hread; exact absurd rfl hcond
  · next hread =>
    rw [h] at hread
    cases hread
    have hrefused : ((field w0 16 8 == 0 || decide (8 ≤ field w0 16 8)) = true) ↔
        field w0 16 8 = 0 ∨ 7 < field w0 16 8 := by
      simp only [Bool.or_eq_true, beq_iff_eq, decide_eq_true_eq]
      omega
    by_cases hactions : field w0 16 8 = 0 ∨ 7 < field w0 16 8
    · rw [if_pos (hrefused.2 hactions), if_pos (by omega)]
    · rw [if_neg (fun h => hactions (hrefused.1 h))]
      simp only [beq_iff_eq, Bool.or_eq_true, decide_eq_true_eq]
      exact ite_congr (propext (by omega)) (fun _ => rfl) (fun _ => rfl)

end

/-! ### SET_MARKER (R125) -/

theorem arriveSetMarker_eq {k : Word} (hk : k.toNat ≤ 3) (w0 w1 : Word) (s : State) :
    arriveSetMarker [k, w0, w1] s =
      match readMarkerConfig w0 w1 with
      | .error st => (st, s)
      | .ok m => (.ok, { s with mku := { s.mku with markers := s.mku.markers.set k.toNat m } }) :=
  (if_neg (Nat.not_lt.2 hk)).trans rfl

theorem exec_setMarker {tag : Tag} {k w0 w1 : Word} {s t : State} {st : Status}
    (ht : Takes ⟨codeSetMarker, tag, [k, w0, w1]⟩ s) (h : arriveSetMarker [k, w0, w1] s = (st, t)) :
    exec (.setMarker tag [k, w0, w1]) s = .next (answered ⟨codeSetMarker, tag, [k, w0, w1]⟩ st [] t) := by
  have ha : commandArrives ⟨codeSetMarker, tag, [k, w0, w1]⟩ s = plain (arriveSetMarker [k, w0, w1] s) := rfl
  rw [h] at ha
  exact exec_of_fixed rfl ht ha

/-- Settles O60: the number is tested first, then the condition with its argument, then actions, mode and
width. -/
theorem setMarkerReplacesTheConfiguration : Obligations.SetMarkerReplacesTheConfiguration := by
  intro tag k w0 w1 s ht
  refine ⟨fun hk => exec_setMarker ht (if_pos hk), fun hk => ?_⟩
  have hrefuses {st : Status} (h : readMarkerConfig w0 w1 = .error st) :
      exec (.setMarker tag [k, w0, w1]) s = .next (answered ⟨codeSetMarker, tag, [k, w0, w1]⟩ st [] s) :=
    exec_setMarker ht (by rw [arriveSetMarker_eq hk, h])
  have hwrites {m : Marker} (h : readMarkerConfig w0 w1 = .ok m) :
      exec (.setMarker tag [k, w0, w1]) s =
        .next (answered ⟨codeSetMarker, tag, [k, w0, w1]⟩ .ok []
          { s with mku := { s.mku with markers := s.mku.markers.set k.toNat m } }) :=
    exec_setMarker ht (by rw [arriveSetMarker_eq hk, h])
  refine ⟨fun hcode => hrefuses (readMarkerConfig_badField (readCond_undefined hcode _)),
    fun hcode hindex => hrefuses (readMarkerConfig_badIndex (readCond_badIndex hcode hindex)),
    fun hlo hhi hindex hbad => hrefuses ?_, fun hcode => hwrites (readMarkerConfig_none hcode),
    fun cond hcode hlo harg hclip hindex hactions hactions' hmode hwidth hwidth' => hwrites ?_⟩
  · by_cases hclip : field w0 24 8 = 4 ∧ (hi16 w1 = 0 ∨ 7 < hi16 w1)
    · obtain ⟨hfour, hmask⟩ := hclip
      exact readMarkerConfig_badField (hfour ▸ readCond_clip_badField hmask)
    · obtain ⟨cond, hread, hcond⟩ := readCond_defined hlo hhi hindex hclip
      rw [readMarkerConfig_of_cond hread hcond, if_pos (by omega)]
  · have hcond : cond ≠ .none := by
      rintro rfl
      exact absurd (hcode ▸ hlo) (by decide)
    rw [← hcode] at harg hclip hindex
    have hread := readCond_condCode harg hclip hindex
    rw [hcode] at hread
    rw [readMarkerConfig_of_cond hread hcond, if_neg (by omega)]

end Sys2Proof.MarkersAndSync

namespace Sys2Proof.CommandChannel

open Sys2Proof.Machine Sys2Proof.Safety Sys2Proof.EventDescriptors Sys2Proof.OutputLimits
open Sys2Proof.MarkersAndSync

/-! ### Common checks (R151) -/

theorem commandArrives_undefined {c : Cmd} (h : requiredLength c.code c.payload = none) (s : State) :
    commandArrives c s = (.fixed .badCode [], s) := by
  rw [commandArrives, h]

theorem commandArrives_wrong_length {c : Cmd} {n : Nat} (h : requiredLength c.code c.payload = some n)
    (hn : c.payload.length ≠ n) (s : State) : commandArrives c s = (.fixed .badLength [], s) := by
  rw [commandArrives, h]
  exact if_neg hn

theorem requiredLength_writeSlots (payload : List Word) :
    ∃ n, requiredLength codeWriteSlots payload = some n := by
  cases payload with
  | nil => exact ⟨1, rfl⟩
  | cons w rest => exact ⟨1 + lo16 w, rfl⟩

/-- The code of every command row is defined. -/
theorem requiredLength_of_commandOf {i : Instr} {c : Cmd} (h : commandOf i = some c) :
    ∃ n, requiredLength c.code c.payload = some n := by
  cases i <;> cases h
  case writeSlots => exact requiredLength_writeSlots _
  all_goals exact ⟨_, rfl⟩

theorem exec_undefinedCommandCode {code : Code} {tag : Tag} {payload : List Word} {s : State}
    (h : requiredLength code payload = none) :
    exec (.undefinedCommandCode code tag payload) s = .next (commandRow ⟨code, tag, payload⟩ s) :=
  congrArg Host.Outcome.next (if_pos (Option.isNone_iff_eq_none.2 h))

/-- Settles O43: the row's code is defined, so that its length is what is refused; an undefined code is refused
before any length. -/
theorem commonChecksRefuseBadCodeAndBadLength : Obligations.CommonChecksRefuseBadCodeAndBadLength := by
  refine ⟨fun i c s hi ht hlength => ?_, fun code tag payload s hcode ht => ?_⟩
  · obtain ⟨n, hn⟩ := requiredLength_of_commandOf hi
    have hne : c.payload.length ≠ n := fun h => hlength (h ▸ hn)
    exact exec_of_fixed hi ht (commandArrives_wrong_length hn hne s)
  · rw [exec_undefinedCommandCode hcode, commandRow_of_takes ht, carryOut, commandArrives_undefined hcode,
      respond_answered]
    rfl

/-! ### Records read after the frame's work (R148) -/

/-- A row whose arrival leaves a record to be read answers with the record of the state. -/
theorem exec_of_later {i : Instr} {c : Cmd} {s : State} {q : Query} {st : Status} {payload : List Word}
    (hi : commandOf i = some c) (ht : Takes c s) (ha : commandArrives c s = (.later q, s))
    (hq : formAnswer (.later q) s = (st, payload)) :
    exec i s = .next (answered c st payload s) := by
  rw [exec_of_commandOf s hi, commandRow_of_takes ht, carryOut, ha, respond_answered, hq]

/-! ### Words of the records that are read (R62, R126, R155, section 11.4.1) -/

theorem identity_eq : identity = [0x0EF5191E, 0x01040800, 0x01000200] := by decide

/-- A word of one half and two bytes. -/
theorem halves_of_two_bytes (h b1 b0 : Nat) :
    halves h (b1 % 256 * 256 + b0 % 256) = BitVec.ofNat 16 h ++ BitVec.ofNat 8 b1 ++ BitVec.ofNat 8 b0 := by
  apply BitVec.eq_of_toNat_eq
  simp only [halves, BitVec.toNat_append, BitVec.toNat_ofNat]
  rw [← Nat.shiftLeft_add_eq_or_of_lt (by omega), ← Nat.shiftLeft_add_eq_or_of_lt (by omega)]
  simp only [Nat.shiftLeft_eq]
  omega

/-- A word of one byte and a number of 24 bits. -/
theorem number_of_byte_and_24_bits (b n : Nat) :
    number (b * 16777216 + n % 16777216) = BitVec.ofNat 8 b ++ BitVec.ofNat 24 n := by
  apply BitVec.eq_of_toNat_eq
  simp only [number, BitVec.toNat_append, BitVec.toNat_ofNat]
  rw [← Nat.shiftLeft_add_eq_or_of_lt (by omega), Nat.shiftLeft_eq]
  omega

/-- A narrower field alone in a word has 0 in the bits above it. -/
theorem zero_append_toNat {n k : Nat} (x : BitVec k) : ((0 : BitVec n) ++ x).toNat = x.toNat := by
  simp

theorem flags_setWidth_eq (flags : BitVec 23) : flags.setWidth 32 = (0 : BitVec 9) ++ flags := by
  apply BitVec.eq_of_toNat_eq
  rw [zero_append_toNat, BitVec.toNat_setWidth]
  omega

theorem contextRecord_eq (c : Ctx) : contextRecord c = contextWords c := by
  have hlives : halves c.activation (c.lives % 256 * 256 + boolCode c.firstFrame) =
      BitVec.ofNat 16 c.activation ++ BitVec.ofNat 8 c.lives ++ BitVec.ofNat 8 (yes c.firstFrame) := by
    rw [← halves_of_two_bytes]
    cases c.firstFrame <;> rfl
  have hflick : number (keptIf (c.snap.kind == .flicker)
        (halfCode c.flickHalf * 16777216 + c.flickCount % 16777216)) =
      if c.snap.kind = .flicker then
        BitVec.ofNat 8 (if c.flickHalf = .high then 1 else 0) ++ BitVec.ofNat 24 c.flickCount
      else 0 := by
    have hhalf : halfCode c.flickHalf = if c.flickHalf = .high then 1 else 0 := by
      cases c.flickHalf <;> rfl
    by_cases hk : c.snap.kind = .flicker
    · rw [if_pos hk, hk, hhalf, ← number_of_byte_and_24_bits]
      rfl
    · rw [if_neg hk, keptIf, if_neg (fun h => hk (beq_iff_eq.1 h))]
      rfl
  have htone : number (keptIf (c.snap.kind == .tone) c.tone) =
      if c.snap.kind = .tone then BitVec.ofNat 32 c.tone else 0 := by
    simp only [keptIf, beq_iff_eq]
    split <;> rfl
  rw [contextRecord, contextWords, hflick, htone, hlives, bytes_eq_word4, halves_eq_word2, halves_eq_word2,
    descRecord_eq]
  rfl

theorem contextsPayload_eq (s : State) :
    contextsPayload s = BitVec.ofNat 32 s.cx.set.length :: s.cx.set.flatMap contextWords := by
  rw [contextsPayload, funext contextRecord_eq]
  rfl

theorem linkCode_eq (l : Link) : linkCode l = yes (l == .up) := by
  cases l with
  | up => rfl
  | lost declared => rfl

theorem statusPayload_eq (s : State) : statusPayload s = statusWords s := by
  rw [statusPayload, statusWords, halves_of_two_bytes, flags_setWidth_eq, faultRecord_eq, linkCode_eq, linkCode_eq]
  simp only [bytes_eq_word4, halves_eq_word2]
  rfl

theorem levelCode_trigOut (s : State) : levelCode (trigOut s) = if 0 < s.mku.pulse then 1 else 0 := by
  unfold trigOut
  split <;> rfl

theorem levelCode_eq (l : Level) : levelCode l = if l = .high then 1 else 0 := by
  cases l <;> rfl

theorem markersPayload_eq (s : State) :
    markersPayload s =
      markerWords s.mku.markers.m0 ++ markerWords s.mku.markers.m1 ++ markerWords s.mku.markers.m2 ++
        markerWords s.mku.markers.m3 ++
        [word4 (if 0 < s.mku.pulse then 1 else 0) (if s.mku.syncLevel = .high then 1 else 0) 0 s.mku.pulse] := by
  rw [markersPayload, bytes_eq_word4, levelCode_trigOut, levelCode_eq]
  simp only [markerRecord_eq]

/-- Settles O44: no argument is tested, and each record is formed from the state as it stands. -/
theorem readingCommandsReturnTheRecords : Obligations.ReadingCommandsReturnTheRecords := by
  intro tag s
  refine ⟨fun ht => ?_, fun ht => ?_, fun ht => ?_, fun ht => ?_⟩
  · rw [← identity_eq]
    exact exec_of_fixed rfl ht rfl
  · exact exec_of_later (q := .status) rfl ht rfl (congrArg (Prod.mk _) (statusPayload_eq s))
  · exact exec_of_later (q := .contexts) rfl ht rfl (congrArg (Prod.mk _) (contextsPayload_eq s))
  · exact exec_of_later (q := .markers) rfl ht rfl (congrArg (Prod.mk _) (markersPayload_eq s))

/-! ### Reads by an index (R29, R40, R158) -/

/-- The parameters' words are what GET_PARAM returns for the indices 0 to 20, in order. -/
theorem paramWords_eq_map (s : State) : paramWords s = (List.range 21).map (fun i => paramValue i s) := by
  have hmask : paramValue 20 s = (0 : BitVec 24) ++ s.par.notifyMask := by
    apply BitVec.eq_of_toNat_eq
    rw [zero_append_toNat]
    exact Nat.mod_eq_of_lt (Nat.lt_trans s.par.notifyMask.isLt (by decide))
  rw [paramWords, ← hmask]
  simp only [← halves_eq_word2]
  rfl

theorem paramValue_eq_getD {i : Nat} (h : i ≤ 20) (s : State) : paramValue i s = (paramWords s).getD i 0 := by
  have hrange : (List.range 21)[i]? = some i := List.getElem?_range (Nat.lt_succ_of_le h)
  rw [paramWords_eq_map, List.getD_eq_getElem?_getD, List.getElem?_map, hrange]
  rfl

theorem slotRangeOk_iff (first count : Nat) :
    slotRangeOk first count = true ↔ first ≤ 511 ∧ 1 ≤ count ∧ count ≤ 30 ∧ first + count ≤ 512 := by
  simp only [slotRangeOk, Bool.and_eq_true, decide_eq_true_eq, and_assoc]

theorem slotsPayload_eq (first count : Nat) (s : State) :
    slotsPayload first count s =
      (List.range count).map (fun k => slotWord (tableGet s.ring (first + k))) := by
  simp only [slotsPayload, slotRecord_eq]

theorem commandArrives_getParam (tag : Tag) (w : Word) (s : State) :
    commandArrives ⟨codeGetParam, tag, [w]⟩ s =
      (if 20 < w.toNat then .fixed .badIndex [] else .later (.param w.toNat), s) := rfl

theorem commandArrives_readDesc (tag : Tag) (w : Word) (s : State) :
    commandArrives ⟨codeReadDesc, tag, [w]⟩ s =
      (if 255 < w.toNat then .fixed .badIndex [] else .later (.desc w.toNat), s) := rfl

theorem commandArrives_readSlots (tag : Tag) (w : Word) (s : State) :
    commandArrives ⟨codeReadSlots, tag, [w]⟩ s =
      (if slotRangeOk (hi16 w) (lo16 w) then .later (.slots (hi16 w) (lo16 w)) else .fixed .badIndex [], s) := rfl

theorem exec_getParam {tag : Tag} {w : Word} {s : State} (ht : Takes ⟨codeGetParam, tag, [w]⟩ s) :
    exec (.getParam tag [w]) s =
      .next
        (if 20 < w.toNat then answered ⟨codeGetParam, tag, [w]⟩ .badIndex [] s
         else answered ⟨codeGetParam, tag, [w]⟩ .ok [(paramWords s).getD w.toNat 0] s) := by
  have ha := commandArrives_getParam tag w s
  by_cases hw : 20 < w.toNat
  · rw [if_pos hw] at ha ⊢
    exact exec_of_fixed rfl ht ha
  · rw [if_neg hw] at ha ⊢
    rw [← paramValue_eq_getD (Nat.not_lt.1 hw)]
    exact exec_of_later rfl ht ha rfl

theorem descAnswer_of_empty {i : Nat} {s : State} (h : tableGet s.edt i = none) :
    descAnswer i s = (.empty, []) := by
  rw [descAnswer, h]

theorem descAnswer_of_valid {i : Nat} {s : State} {d : Desc} (h : tableGet s.edt i = some d) :
    descAnswer i s = (.ok, descWords d) := by
  rw [descAnswer, h, ← descRecord_eq]

theorem exec_readDesc_badIndex {tag : Tag} {w : Word} {s : State} (ht : Takes ⟨codeReadDesc, tag, [w]⟩ s)
    (hw : 255 < w.toNat) :
    exec (.readDesc tag [w]) s = .next (answered ⟨codeReadDesc, tag, [w]⟩ .badIndex [] s) := by
  have ha := commandArrives_readDesc tag w s
  rw [if_pos hw] at ha
  exact exec_of_fixed rfl ht ha

theorem exec_readDesc_entry {tag : Tag} {w : Word} {s : State} {st : Status} {payload : List Word}
    (ht : Takes ⟨codeReadDesc, tag, [w]⟩ s) (hw : w.toNat ≤ 255) (h : descAnswer w.toNat s = (st, payload)) :
    exec (.readDesc tag [w]) s = .next (answered ⟨codeReadDesc, tag, [w]⟩ st payload s) := by
  have ha := commandArrives_readDesc tag w s
  rw [if_neg (Nat.not_lt.2 hw)] at ha
  exact exec_of_later rfl ht ha h

theorem exec_readSlots {tag : Tag} {w : Word} {s : State} (ht : Takes ⟨codeReadSlots, tag, [w]⟩ s) :
    exec (.readSlots tag [w]) s =
      .next
        (if hi16 w ≤ 511 ∧ 1 ≤ lo16 w ∧ lo16 w ≤ 30 ∧ hi16 w + lo16 w ≤ 512 then
           answered ⟨codeReadSlots, tag, [w]⟩ .ok
             ((List.range (lo16 w)).map (fun k => slotWord (tableGet s.ring (hi16 w + k)))) s
         else answered ⟨codeReadSlots, tag, [w]⟩ .badIndex [] s) := by
  have ha := commandArrives_readSlots tag w s
  by_cases hrange : hi16 w ≤ 511 ∧ 1 ≤ lo16 w ∧ lo16 w ≤ 30 ∧ hi16 w + lo16 w ≤ 512
  · rw [if_pos ((slotRangeOk_iff _ _).2 hrange)] at ha
    rw [if_pos hrange, ← slotsPayload_eq]
    exact exec_of_later rfl ht ha rfl
  · rw [if_neg (mt (slotRangeOk_iff _ _).1 hrange)] at ha
    rw [if_neg hrange]
    exact exec_of_fixed rfl ht ha

/-- Settles O45: each row tests its index or range, then returns the words of what it names. -/
theorem indexedReadsReturnTheEntry : Obligations.IndexedReadsReturnTheEntry := by
  intro tag w s
  refine ⟨exec_getParam, fun ht => ?_, exec_readSlots⟩
  by_cases hw : 255 < w.toNat
  · rw [if_pos hw]
    exact exec_readDesc_badIndex ht hw
  · rw [if_neg hw]
    have hle := Nat.not_lt.1 hw
    cases hd : tableGet s.edt w.toNat with
    | none => exact exec_readDesc_entry ht hle (descAnswer_of_empty hd)
    | some d => exact exec_readDesc_entry ht hle (descAnswer_of_valid hd)

/-! ### TAKE_FLAGS (R156) -/

theorem flagsWithout_getLsbD (flags : BitVec 23) (mask : Word) {k : Nat} (hk : k < 23) :
    (flagsWithout flags (mask.setWidth 23)).getLsbD k = (flags.getLsbD k && !mask.getLsbD k) := by
  simp only [flagsWithout, BitVec.getLsbD_and, BitVec.getLsbD_not, BitVec.getLsbD_setWidth, hk, decide_true,
    Bool.true_and]

theorem arriveTakeFlags_refused {mask : Word} (h : 8388608 ≤ mask.toNat) (s : State) :
    arriveTakeFlags [mask] s = (.fixed .badField [], s) := if_pos h

theorem arriveTakeFlags_taken {mask : Word} (h : mask.toNat < 8388608) (s : State) :
    arriveTakeFlags [mask] s =
      (.fixed .ok [s.flags.setWidth 32], s.withFlags (flagsWithout s.flags (mask.setWidth 23))) :=
  if_neg (Nat.not_le.2 h)

theorem exec_takeFlags {tag : Tag} {mask : Word} {s t : State} {st : Status} {payload : List Word}
    (ht : Takes ⟨codeTakeFlags, tag, [mask]⟩ s) (ha : arriveTakeFlags [mask] s = (.fixed st payload, t)) :
    exec (.takeFlags tag [mask]) s = .next (answered ⟨codeTakeFlags, tag, [mask]⟩ st payload t) :=
  exec_of_fixed rfl ht ha

/-- Settles O46: the flags are read into the response before those of the mask are cleared. -/
theorem takeFlagsReadsAndClears : Obligations.TakeFlagsReadsAndClears := by
  intro tag mask s ht
  refine ⟨fun hrefused => exec_takeFlags ht (arriveTakeFlags_refused hrefused s), fun htaken => ?_⟩
  exact ⟨s.withFlags (flagsWithout s.flags (mask.setWidth 23)), exec_takeFlags ht (arriveTakeFlags_taken htaken s),
    rfl, fun k hk => flagsWithout_getLsbD s.flags mask hk⟩

/-! ### SET_PARAM of a number (R157, R159) -/

theorem clamp_eq {lo hi : Nat} (h : lo ≤ hi) (v : Nat) :
    clamp lo hi v = if v < lo then lo else if hi < v then hi else v := by
  unfold clamp
  split
  · omega
  · split <;> omega

theorem clampStatus_eq {lo hi : Nat} (h : lo ≤ hi) (v : Nat) :
    clampStatus lo hi v = if lo ≤ v ∧ v ≤ hi then .ok else .okClamped := by
  have hsame : clamp lo hi v = v ↔ lo ≤ v ∧ v ≤ hi := by unfold clamp; omega
  simp only [clampStatus, hsame]

theorem numberRange_index {i lo hi : Nat} (h : numberRange i = some (lo, hi)) : i ≤ 17 ∧ i ≠ 14 := by
  refine ⟨Nat.not_lt.1 (fun hlt => ?_), fun h14 => ?_⟩
  · have hnone : numberRange i = none := by
      unfold numberRange
      repeat rw [if_neg (by omega)]
    rw [hnone] at h
    cases h
  · subst h14
    cases h

theorem setParamTo_number {i lo hi : Nat} (h : numberRange i = some (lo, hi)) (w : Word) (s : State) :
    setParamTo i w s =
      (if lo ≤ w.toNat ∧ w.toNat ≤ hi then .ok else .okClamped, writeNumber i (clamp lo hi w.toNat) s) := by
  obtain ⟨hi17, h14⟩ := numberRange_index h
  rw [← clampStatus_eq (numberRange_le h), setParamTo, if_neg (by omega), if_neg h14, if_neg (by omega),
    if_neg (by omega), if_neg (by omega), h]

/-- The parameters that are numbers and have no row of their own: PLAN_BASE and FOLD_FLOOR do. -/
structure PlainNumber (i lo hi : Nat) : Prop where
  range : numberRange i = some (lo, hi)
  notPlanBase : i ≠ 9
  notFoldFloor : i ≠ 16

namespace PlainNumber

/-- Rows of an index and a range, each tested to be a plain number's. -/
theorem of_mem {rows : List (Nat × Nat × Nat)} {i lo hi : Nat}
    (hrows : ∀ r, r ∈ rows → numberRange r.1 = some r.2 ∧ r.1 ≠ 9 ∧ r.1 ≠ 16) (h : (i, lo, hi) ∈ rows) :
    PlainNumber i lo hi := by
  obtain ⟨hrange, h9, h16⟩ := hrows _ h
  exact ⟨hrange, h9, h16⟩

variable {i lo hi : Nat} (h : PlainNumber i lo hi)
include h

/-- A plain number is written to its own place among the parameters. -/
theorem writeNumber_own_place (v : Nat) (s : State) :
    writeNumber i v s = { s with par := (writeNumber i v s).par } ∧
      paramWords (writeNumber i v s) = (paramWords s).set i (BitVec.ofNat 32 v) := by
  obtain ⟨hi17, h14⟩ := numberRange_index h.range
  have h9 := h.notPlanBase
  have h16 := h.notFoldFloor
  have hindex : i = 0 ∨ i = 1 ∨ i = 2 ∨ i = 3 ∨ i = 4 ∨ i = 5 ∨ i = 6 ∨ i = 7 ∨ i = 8 ∨ i = 10 ∨ i = 11 ∨
      i = 12 ∨ i = 13 ∨ i = 15 ∨ i = 17 := by omega
  rcases hindex with rfl | rfl | rfl | rfl | rfl | rfl | rfl | rfl | rfl | rfl | rfl | rfl | rfl | rfl | rfl <;>
    exact ⟨rfl, rfl⟩

theorem paramValue_writeNumber_self (v : Nat) (s : State) :
    paramValue i (writeNumber i v s) = BitVec.ofNat 32 v := by
  obtain ⟨hi17, -⟩ := numberRange_index h.range
  obtain ⟨-, hwords⟩ := h.writeNumber_own_place v s
  have hlength : i < (paramWords s).length := Nat.lt_of_le_of_lt hi17 (show 17 < 21 by decide)
  rw [paramValue_eq_getD (by omega), hwords, List.getD_eq_getElem?_getD, List.getElem?_set_self hlength]
  rfl

theorem paramValue_writeNumber_other {j : Nat} (hj : j ≤ 20) (hne : j ≠ i) (v : Nat) (s : State) :
    paramValue j (writeNumber i v s) = paramValue j s := by
  obtain ⟨-, hwords⟩ := h.writeNumber_own_place v s
  rw [paramValue_eq_getD hj, hwords, List.getD_eq_getElem?_getD, List.getElem?_set_ne hne.symm,
    ← List.getD_eq_getElem?_getD, ← paramValue_eq_getD hj]

end PlainNumber

/-- Settles O47: the clamped number is written to its own place, and nothing outside the parameters moves. -/
theorem setParamWritesANumberClamped : Obligations.SetParamWritesANumberClamped := by
  intro tag i lo hi v s hrow ht
  have hplain : PlainNumber i lo hi := .of_mem (by decide) hrow
  obtain ⟨hi17, -⟩ := numberRange_index hplain.range
  have hindex : (BitVec.ofNat 32 i).toNat = i := Nat.mod_eq_of_lt (by omega)
  obtain ⟨hframe, -⟩ := hplain.writeNumber_own_place (clamp lo hi v.toNat) s
  refine ⟨writeNumber i (clamp lo hi v.toNat) s, exec_setParam ht ?_, ?_,
    fun j hj hne => hplain.paramValue_writeNumber_other hj hne _ s, hframe⟩
  · rw [hindex, setParamTo_number hplain.range]
  · rw [hplain.paramValue_writeNumber_self, clamp_eq (numberRange_le hplain.range)]

/-! ### RESET_ENGINE (R130, R160) -/

theorem rearmAll_get (m : Markers) (k : Nat) : (rearmAll m).get k = rearm (m.get k) := by
  unfold Markers.get
  split <;> rfl

theorem exec_resetEngine {tag : Tag} {s t : State} {st : Status} (ht : Takes ⟨codeResetEngine, tag, []⟩ s)
    (ha : arriveResetEngine s = (st, t)) :
    exec (.resetEngine tag []) s = .next (answered ⟨codeResetEngine, tag, []⟩ st [] t) := by
  have harrives : commandArrives ⟨codeResetEngine, tag, []⟩ s = plain (arriveResetEngine s) := rfl
  rw [ha] at harrives
  exact exec_of_fixed rfl ht harrives

/-- Settles O51: one test of the scheduler state, then each block's share of the reset. -/
theorem resetEngineReturnsTheMachineryToRest : Obligations.ResetEngineReturnsTheMachineryToRest := by
  intro tag s ht
  refine ⟨fun hfaulted => exec_resetEngine ht (if_pos hfaulted), fun hother => ?_⟩
  refine ⟨rearmAll s.mku.markers, fun k _ => ⟨fun hspent => ?_, fun hkept => ?_⟩,
    exec_resetEngine ht (if_neg hother)⟩
  · rw [rearmAll_get, rearm, if_pos hspent]
  · rw [rearmAll_get, rearm, if_neg hkept]

end Sys2Proof.CommandChannel

namespace Sys2Proof.ReportsAndNotices

open Sys2Proof.Machine Sys2Proof.Safety

/-! ### The three outcomes of raising a notice (R163) -/

theorem noticeFits_iff (q : List Report) : noticeFits q = true ↔ noticeCount q < 6 ∧ q.length < 8 :=
  Bool.and_eq_true_iff.trans (and_congr decide_eq_true_iff decide_eq_true_iff)

theorem not_noticeFits_iff (q : List Report) : ¬ noticeFits q = true ↔ 6 ≤ noticeCount q ∨ 8 ≤ q.length := by
  rw [noticeFits_iff]
  omega

section
variable {n : Notice} {s : State}

theorem raise_of_masked (hmask : maskEnables s.par.notifyMask n = false) : raise n s = s := by
  rw [raise, if_neg (Bool.eq_false_iff.mp hmask)]

theorem raise_of_fits (hmask : maskEnables s.par.notifyMask n = true) (hfits : noticeFits s.rpq.queue = true) :
    raise n s =
      s.withRpq
        { queue := s.rpq.queue ++ [{ notice := true, words := noticeFrame n s.rpq.lost }]
          lost := false } := by
  rw [raise, if_pos hmask, if_pos hfits]

theorem raise_of_full (hmask : maskEnables s.par.notifyMask n = true) (hfull : ¬ noticeFits s.rpq.queue = true) :
    raise n s = (setFlag .noticeLost s).withRpq { s.rpq with lost := true } := by
  rw [raise, if_pos hmask, if_neg hfull]

end

/-- Settles O15: the mask is tested first, then both capacities together. -/
theorem noticeIsMaskedQueuedOrDiscarded : Obligations.NoticeIsMaskedQueuedOrDiscarded := by
  intro n s
  refine ⟨raise_of_masked, fun hmask hnotices hreports => ?_, fun hmask hfull => ?_⟩
  · exact raise_of_fits hmask ((noticeFits_iff _).mpr ⟨hnotices, hreports⟩)
  · exact raise_of_full hmask ((not_noticeFits_iff _).mpr hfull)

end Sys2Proof.ReportsAndNotices

namespace Sys2Proof.CommandQueue

open Sys2Proof.Machine

/-! ### The step by the queue of waiting commands (log 12) -/

section
variable {s : State}

theorem step_of_pending_nil (hempty : s.pending = []) : step s = .next s := by
  rw [step, hempty]

theorem step_of_pending_cons {c : Instr} {rest : List Instr} (hfront : s.pending = c :: rest) :
    step s = exec c (s.withPending rest) := by
  rw [step, hfront]

end

/-- Settles O1: the two cases of the queue; `withPending` is the update of that one field. -/
theorem stepRunsTheFrontCommand : Obligations.StepRunsTheFrontCommand :=
  ⟨fun _ _ _ hfront => step_of_pending_cons hfront, fun _ hempty => step_of_pending_nil hempty⟩

end Sys2Proof.CommandQueue

namespace Sys2Proof.StepInvariants

open Sys2Proof.Machine Sys2Proof.Safety Sys2Proof.EventDescriptors Sys2Proof.OutputLimits

/-! ### Properties that events keep -/

/-- Tracker, Scheduler, contexts, the two links, executor, reports and the waiting commands are the same. -/
structure Quiet (s t : State) : Prop where
  ant : t.ant = s.ant
  sch : t.sch = s.sch
  cx : t.cx = s.cx
  dsr : t.dsr = s.dsr
  up : t.up = s.up
  cmx : t.cmx = s.cmx
  rpq : t.rpq = s.rpq
  pending : t.pending = s.pending

/-- The contexts of `set` are those of the state's set, some of them left out and each changed in what is not its
index. -/
def SameContexts (set : List Ctx) (s : State) : Prop :=
  (set.map (·.index)).Sublist (s.cx.set.map (·.index))

/-- A property that the parts of which events are made keep: what events write beside these parts is quiet. -/
structure EventInvariant (P : State → Prop) : Prop where
  quiet : ∀ {s t : State}, Quiet s t → P s → P t
  raise : ∀ (n : Notice) (s : State), P s → P (raise n s)
  sched : ∀ (x : Sch) (s : State), (x.state = .faulted → s.sch.state = .faulted) → P s → P (s.withSch x)
  contexts : ∀ (set : List Ctx) (s : State), SameContexts set s → P s →
    P (s.withCx { s.cx with set := set })
  arm : ∀ (c : Ctx) (n : Nat) (s : State), s.sch.state ≠ .faulted → s.cx.set.length < 8 →
    findCtx s.cx.set c.index = none → P s → P (s.withCx { set := s.cx.set ++ [c], activation := n })
  stop : ∀ s : State, P s → P ((s.withSch { s.sch with state := .faulted }).withCx { s.cx with set := [] })
  cycle : ∀ (n : Nat) (s : State), n < 65536 → P s → P (s.withAnt { s.ant with cycle := n })

namespace EventInvariant

variable {P : State → Prop}

theorem ite {c : Prop} [Decidable c] {s t : State} (hs : P s) (ht : P t) : P (if c then s else t) := by
  split
  · exact hs
  · exact ht

/-! #### Flags, notices and free choices -/

theorem setFlag (hP : EventInvariant P) (f : Flag) (s : State) (h : P s) : P (setFlag f s) :=
  hP.quiet (s := s) ⟨rfl, rfl, rfl, rfl, rfl, rfl, rfl, rfl⟩ h

theorem setFlagIf (hP : EventInvariant P) (c : Bool) (f : Flag) (s : State) (h : P s) :
    P (setFlagIf c f s) :=
  ite (hP.setFlag f s h) h

theorem choose (hP : EventInvariant P) (n : Nat) (s : State) (h : P s) : P (choose n s).2 :=
  hP.quiet (s := s) ⟨rfl, rfl, rfl, rfl, rfl, rfl, rfl, rfl⟩ h

theorem chooseFirst (hP : EventInvariant P) (s : State) (h : P s) : P (chooseFirst s).2 :=
  hP.choose 2 s h

theorem raiseIf (hP : EventInvariant P) (c : Bool) (n : Notice) (s : State) (h : P s) : P (raiseIf c n s) :=
  ite (hP.raise n s h) h

theorem withMku (hP : EventInvariant P) (x : Mku) (s : State) (h : P s) : P (s.withMku x) :=
  hP.quiet (s := s) ⟨rfl, rfl, rfl, rfl, rfl, rfl, rfl, rfl⟩ h

theorem withLmu (hP : EventInvariant P) (x : Lmu) (s : State) (h : P s) : P (s.withLmu x) :=
  hP.quiet (s := s) ⟨rfl, rfl, rfl, rfl, rfl, rfl, rfl, rfl⟩ h

theorem withCw (hP : EventInvariant P) (x : PerPhase CwPhase) (s : State) (h : P s) : P (s.withCw x) :=
  hP.quiet (s := s) ⟨rfl, rfl, rfl, rfl, rfl, rfl, rfl, rfl⟩ h

theorem withPar (hP : EventInvariant P) (x : Params) (s : State) (h : P s) : P (s.withPar x) :=
  hP.quiet (s := s) ⟨rfl, rfl, rfl, rfl, rfl, rfl, rfl, rfl⟩ h

theorem withEdt (hP : EventInvariant P) (x : List (Nat × Desc)) (s : State) (h : P s) : P (s.withEdt x) :=
  hP.quiet (s := s) ⟨rfl, rfl, rfl, rfl, rfl, rfl, rfl, rfl⟩ h

theorem withRing (hP : EventInvariant P) (x : List (Nat × Slot)) (s : State) (h : P s) : P (s.withRing x) :=
  hP.quiet (s := s) ⟨rfl, rfl, rfl, rfl, rfl, rfl, rfl, rfl⟩ h

theorem withFlags (hP : EventInvariant P) (x : BitVec 23) (s : State) (h : P s) : P (s.withFlags x) :=
  hP.quiet (s := s) ⟨rfl, rfl, rfl, rfl, rfl, rfl, rfl, rfl⟩ h

/-- Contexts changed one by one in what is not their index. -/
theorem mapContexts (hP : EventInvariant P) {f : Ctx → Ctx} (hf : ∀ c, (f c).index = c.index) (s : State)
    (h : P s) : P (s.withCx { s.cx with set := s.cx.set.map f }) := by
  refine hP.contexts _ s ?_ h
  have hmap : (s.cx.set.map f).map (·.index) = s.cx.set.map (·.index) := by
    rw [List.map_map]
    exact List.map_congr_left (fun c _ => hf c)
  unfold SameContexts
  rw [hmap]

/-! #### Firing of markers -/

theorem haltNow (hP : EventInvariant P) (s : State) (h : P s) : P (haltNow s) := by
  refine hP.mapContexts (s := s.withSch { s.sch with state := .halted }) (fun c => ?_)
    (hP.sched _ s (fun hf => nomatch hf) h)
  split <;> rfl

theorem stopNow (hP : EventInvariant P) (s : State) (h : P s) : P (stopNow s) := by
  unfold Machine.stopNow
  split
  · exact hP.haltNow s h
  · exact hP.haltNow s h
  · exact h
  · exact h

theorem fire (hP : EventInvariant P) (k : Nat) (s : State) (h : P s) : P (fire k s) := by
  have hpulse (c : Bool) (w : Nat) : P (if c = true then requestPulse w s else s) :=
    ite (hP.withMku _ s h) h
  have hstop (c : Bool) (t : State) (ht : P t) : P (if c = true then Machine.stopNow t else t) :=
    ite (hP.stopNow t ht) ht
  exact hP.withMku _ _ (hP.raiseIf _ _ _ (hstop _ _ (hpulse _ _)))

theorem fireIfHit (hP : EventInvariant P) (hit : MarkerCond → Bool) (k : Nat) (s : State) (h : P s) :
    P (fireIfHit hit k s) :=
  ite (hP.fire k s h) h

theorem fireMarkers (hP : EventInvariant P) (hit : MarkerCond → Bool) (s : State) (h : P s) :
    P (fireMarkers hit s) :=
  hP.fireIfHit hit 3 _ (hP.fireIfHit hit 2 _ (hP.fireIfHit hit 1 _ (hP.fireIfHit hit 0 s h)))

theorem fireWithNotice (hP : EventInvariant P) (hit : MarkerCond → Bool) (place : Nat) (n : Notice) (s : State)
    (h : P s) : P (fireWithNotice hit place n s) := by
  have hone (k : Nat) (t : State) (ht : P t) : P (Machine.fireIfHit hit k (Machine.raiseIf (place == k) n t)) :=
    hP.fireIfHit hit k _ (hP.raiseIf _ n t ht)
  exact hP.raiseIf _ n _ (hone 3 _ (hone 2 _ (hone 1 _ (hone 0 s h))))

theorem noticeAndFire (hP : EventInvariant P) (c : Bool) (n : Notice) (hit : MarkerCond → Bool) (s : State)
    (h : P s) : P (noticeAndFire c n hit s) :=
  ite (hP.fireWithNotice hit _ n _ (hP.choose 5 s h)) (hP.fireMarkers hit _ (hP.raiseIf c n s h))

/-! #### Faults and armings -/

theorem reportFault (hP : EventInvariant P) (c : FaultCause) (s : State) (h : P s) : P (reportFault c s) :=
  hP.raise _ _ (hP.sched _ s id h)

theorem consistencyFault (hP : EventInvariant P) (c : FaultCause) (s : State) (h : P s) :
    P (consistencyFault c s) := by
  refine hP.reportFault c _ (hP.sched _ s (fun hf => ?_) h)
  dsimp only at hf
  split at hf
  · assumption
  · cases hf

theorem safetyStop (hP : EventInvariant P) (c : FaultCause) (s : State) (h : P s) : P (safetyStop c s) :=
  ite (hP.reportFault c s h) (hP.reportFault c _ (hP.withLmu _ _ (hP.stop s h)))

theorem offerEntry (hP : EventInvariant P) (source : ArmSource) (r : State × ArmCount) (i : Nat)
    (hs : r.1.sch.state ≠ .faulted) (h : P r.1) : P (offerEntry source r i).1 := by
  unfold Machine.offerEntry
  split
  · exact hP.raise _ _ (hP.setFlag _ _ h)
  · next hskip =>
    unfold skipReason at hskip
    split at hskip
    · cases hskip
    · next habsent =>
      split at hskip
      · cases hskip
      · next hroom =>
        split
        · exact hP.arm _ _ _ hs (Nat.lt_of_not_le hroom) (Option.not_isSome_iff_eq_none.1 habsent) h
        · exact h

theorem offerEntries (hP : EventInvariant P) (source : ArmSource) (l : List Nat) (s : State)
    (hs : s.sch.state ≠ .faulted) (h : P s) : P (offerEntries source l s).1 := by
  have hfold (l : List Nat) : ∀ r : State × ArmCount, r.1.sch.state ≠ .faulted → P r.1 →
      P (l.foldl (Machine.offerEntry source) r).1 := by
    induction l with
    | nil => exact fun r _ h => h
    | cons i l ih =>
      exact fun r hr h => ih _ (mt (offerEntry_sameLimits source r i).faulted.1 hr)
        (hP.offerEntry source r i hr h)
  exact hfold l (s, ArmCount.zero) hs h

theorem armChain (hP : EventInvariant P) (source : ArmSource) (head : Nat) (s : State)
    (hs : s.sch.state ≠ .faulted) (h : P s) : P (armChain source head s) := by
  unfold Machine.armChain
  split
  · exact hP.offerEntries source _ s hs h
  · exact hP.consistencyFault _ s h
  · exact hP.consistencyFault _ s h

theorem armAfterLink (hP : EventInvariant P) (head : Nat) (s : State) (h : P s) : P (armAfterLink head s) := by
  unfold Machine.armAfterLink
  split
  · exact h
  · next hs => exact hP.armChain .chain head s hs h

theorem syncAtScheduler (hP : EventInvariant P) (s : State) (h : P s) : P (syncAtScheduler s) := by
  have harm (hs : s.sch.state ≠ .faulted) : P
      (match s.par.syncOffset with | some o => Machine.armChain .sync (resolveOffset s o) s | none => s) := by
    split
    · exact hP.armChain _ _ s hs h
    · exact h
  unfold Machine.syncAtScheduler
  split
  · next hs => exact harm (by simp [hs])
  · next hs => exact harm (by simp [hs])
  · exact hP.setFlag _ s h
  · exact hP.setFlag _ s h

theorem takeEdge (hP : EventInvariant P) (s : State) (h : P s) : P (takeEdge s) :=
  ite (hP.fireMarkers _ _ (hP.syncAtScheduler _ (hP.withMku _ s h))) (hP.withMku _ s h)

end EventInvariant

/-! ### Contexts keep their index -/

theorem waitTests_index (f : FrameInfo) (c : Ctx) : (waitTests f c).1.index = c.index := by
  unfold waitTests
  split
  · rfl
  · split <;> rfl

theorem holdFrame_index (f : FrameInfo) (c : Ctx) : (holdFrame f c).index = c.index := by
  unfold holdFrame
  dsimp only
  split <;> rfl

/-- A context that takes a frame stays the context of its index. -/
theorem takeFrame_index (f : FrameInfo) (c : Ctx) : (takeFrame f c).1.index = c.index := by
  unfold takeFrame
  split
  · exact waitTests_index f _
  · unfold takeRampIn
    dsimp only
    split <;> rfl
  · unfold takeHold
    dsimp only
    split
    · split <;> exact holdFrame_index f c
    · exact holdFrame_index f c
  · unfold takeRampOut
    dsimp only
    split <;> rfl
  · unfold takeGap
    split
    · split
      · exact waitTests_index f _
      · rfl
    · rfl

theorem decideLife_index {c c' : Ctx} (h : decideLife c = .goesOn c') : c'.index = c.index := by
  unfold decideLife at h
  dsimp only at h
  repeat' split at h
  all_goals cases h <;> rfl

theorem abortCtx_index {c c' : Ctx} (h : abortCtx c = some c') : c'.index = c.index := by
  unfold abortCtx at h
  split at h
  · cases h
  · cases h
  · cases h; rfl
  · split at h <;> cases h
    rfl
  · split at h <;> cases h
    rfl

theorem findCtx_index {set : List Ctx} {i : Nat} {c : Ctx} (h : findCtx set i = some c) : c.index = i :=
  beq_iff_eq.1 (List.find?_some (p := fun d : Ctx => d.index == i) (show set.find? _ = some c from h))

theorem filterMap_abortCtx_sublist (set : List Ctx) :
    ((set.filterMap abortCtx).map (·.index)).Sublist (set.map (·.index)) := by
  induction set with
  | nil => exact .slnil
  | cons c set ih =>
    rw [List.map_cons]
    cases hc : abortCtx c with
    | none =>
      rw [List.filterMap_cons_none hc]
      exact ih.cons _
    | some c' =>
      rw [List.filterMap_cons_some hc, List.map_cons, abortCtx_index hc]
      exact ih.cons_cons _

namespace EventInvariant

variable {P : State → Prop}

/-! #### Lives of contexts and the parts of a frame's work -/

theorem lifeStartsNow (hP : EventInvariant P) (i : Nat) (late : Bool) (s : State) (h : P s) :
    P (lifeStartsNow i late s) := by
  unfold Machine.lifeStartsNow
  split
  · exact h
  · exact hP.noticeAndFire _ _ _ s h

theorem contextEnds (hP : EventInvariant P) (c : Ctx) (aborted : Bool) (s : State) (h : P s) :
    P (contextEnds c aborted s) := by
  have hremoved : P (s.withCx { s.cx with set := removeCtx s.cx.set c.index }) :=
    hP.contexts _ s (List.filter_sublist.map _) h
  exact ite (hP.raiseIf _ _ _ hremoved) (hP.noticeAndFire _ _ _ _ hremoved)

theorem replaceContext (hP : EventInvariant P) {i : Nat} {c' : Ctx} (hc : c'.index = i) (s : State) (h : P s) :
    P (s.withCx { s.cx with set := replaceCtx s.cx.set i c' }) := by
  refine hP.mapContexts (fun c => ?_) s h
  split
  · next hi => rw [hi, hc]
  · rfl

theorem lifeEndsNow (hP : EventInvariant P) (i : Nat) (s : State) (h : P s) : P (lifeEndsNow i s).1 := by
  unfold Machine.lifeEndsNow
  split
  · exact h
  · next c hc =>
    split
    · next c' hgoes =>
      exact hP.replaceContext ((decideLife_index hgoes).trans (findCtx_index hc)) s h
    · exact hP.contextEnds c _ s h

theorem takeContexts (hP : EventInvariant P) (f : FrameInfo) {before took after : List Ctx} (s : State)
    (hset : s.cx.set = before ++ took ++ after) (h : P s) :
    P (s.withCx { s.cx with set := before ++ took.map (fun c => (takeFrame f c).1) ++ after }) := by
  refine hP.contexts _ s ?_ h
  have hmap : (took.map (fun c => (takeFrame f c).1)).map (·.index) = took.map (·.index) := by
    rw [List.map_map]
    exact List.map_congr_left (fun c _ => takeFrame_index f c)
  unfold SameContexts
  rw [hset]
  simp only [List.map_append, hmap]
  exact .refl _

theorem takeFrom (hP : EventInvariant P) (f : FrameInfo) (n : Nat) (s : State) (h : P s) :
    P (takeFrom f n s).1 := by
  have hset : s.cx.set = s.cx.set.take n ++ s.cx.set.drop n ++ [] := by simp
  have htook := hP.takeContexts f s hset h
  simp only [List.append_nil] at htook
  unfold Machine.takeFrom
  simp only [List.map_map]
  exact hP.setFlagIf _ _ _ htook

theorem startNowOrLater (hP : EventInvariant P) (items : List Item) (s : State) (h : P s) :
    P (startNowOrLater items s).1 := by
  unfold Machine.startNowOrLater
  split
  · split
    · exact hP.lifeStartsNow _ _ _ (hP.chooseFirst s h)
    · exact hP.chooseFirst s h
  · exact h

theorem offerRingEntry (hP : EventInvariant P) (f : FrameInfo) (r : State × List Item) (i : Nat)
    (hs : r.1.sch.state ≠ .faulted) (h : P r.1) : P (offerRingEntry f r i).1 :=
  hP.startNowOrLater _ _ (hP.takeFrom f _ _ (hP.offerEntry .ring (r.1, ArmCount.zero) i hs h))

theorem armRing (hP : EventInvariant P) (f : FrameInfo) (head : Nat) (s : State)
    (hs : s.sch.state ≠ .faulted) (h : P s) : P (armRing f head s).1 := by
  have hfold (l : List Nat) : ∀ r : State × List Item, r.1.sch.state ≠ .faulted → P r.1 →
      P (l.foldl (Machine.offerRingEntry f) r).1 := by
    induction l with
    | nil => exact fun r _ h => h
    | cons i l ih =>
      exact fun r hr h => ih _ (mt (offerRingEntry_sameLimits f r i).faulted.1 hr)
        (hP.offerRingEntry f r i hr h)
  unfold Machine.armRing
  split
  · exact hfold _ (s, []) hs h
  · exact hP.consistencyFault _ s h
  · exact hP.consistencyFault _ s h

theorem emptyOnce (hP : EventInvariant P) (cycle : Nat) (slot : Slot) (s : State) (h : P s) :
    P (emptyOnce cycle slot s) := by
  unfold Machine.emptyOnce
  split
  · exact hP.withRing _ s h
  · exact h

theorem ringReadNow (hP : EventInvariant P) (f : FrameInfo) (s : State) (h : P s) : P (ringReadNow f s).1 := by
  unfold Machine.ringReadNow
  split
  · next hreads =>
    have hs : s.sch.state ≠ .faulted := fun hf => by simp [hf, readsRing] at hreads
    split
    · exact h
    · exact hP.armRing f _ _ (mt (emptyOnce_sameLimits _ _ s).faulted.1 hs) (hP.emptyOnce _ _ s h)
  · exact h

theorem limitFlag (hP : EventInvariant P) (acts : Bool) (f : Flag) (slew : Bool) (p : Phase) (s : State)
    (h : P s) : P (limitFlag acts f slew p s) :=
  ite (hP.raiseIf _ _ _ (hP.setFlag f s h)) h

theorem limitFlags (hP : EventInvariant P) (l : PerPhase Limited) (s : State) (h : P s) : P (limitFlags l s) := by
  have hphase (p : Phase) (t : State) (ht : P t) : P (limitFlagsOf l p t) :=
    hP.limitFlag _ _ _ _ _ (hP.limitFlag _ _ _ _ t ht)
  exact hphase .c _ (hphase .b _ (hphase .a s h))

theorem doItem (hP : EventInvariant P) (f : FrameInfo) (it : Item) (s : State) (h : P s) :
    P (doItem f it s).1 := by
  cases it with
  | ringRead => exact hP.ringReadNow f s h
  | cycleMarks => exact hP.fireMarkers _ s h
  | lifeStarts i late => exact hP.lifeStartsNow i late s h
  | lifeEnds i => exact hP.lifeEndsNow i s h
  | afterLink head => exact hP.armAfterLink head s h
  | limits l => exact hP.limitFlags l s h
  | clipMarks c => exact hP.fireMarkers _ s h

theorem runAll (hP : EventInvariant P) (f : FrameInfo) (items : List Item) (s : State) (h : P s) :
    P (runAll f items s) :=
  runItems_keeps P f hP.choose (hP.doItem f) _ items s h

theorem contextEvent (hP : EventInvariant P) (f : FrameInfo) (due : Ctx → Bool) (i : Nat) (s : State) (h : P s) :
    P (contextEvent f due i s) := by
  unfold Machine.contextEvent
  split
  · exact h
  · next c _ =>
    exact ite (hP.runAll f _ _ (hP.setFlagIf _ _ _ (hP.replaceContext (takeFrame_index f c) s h))) h

theorem endStepIf (hP : EventInvariant P) (c : Bool) (s : State) (h : P s) : P (endStepIf c s) :=
  ite (hP.sched _ s (fun hf => nomatch hf) h) h

theorem applyPendingBase (hP : EventInvariant P) (s : State) (h : P s) : P (applyPendingBase s) := by
  unfold Machine.applyPendingBase
  split
  · exact hP.sched _ s id h
  · exact h

theorem contextsTake (hP : EventInvariant P) (f : FrameInfo) (n : Nat) (s : State) (h : P s) :
    P (contextsTake f n s) := by
  have hset : s.cx.set = [] ++ s.cx.set.take n ++ s.cx.set.drop n := by simp
  have htook := hP.takeContexts f s hset h
  simp only [List.nil_append] at htook
  unfold Machine.contextsTake takeUpTo
  simp only [List.map_map]
  exact hP.setFlagIf _ _ _ htook

theorem framePrep (hP : EventInvariant P) (f : FrameInfo) (n : Nat) (s : State) (h : P s) :
    P (framePrep f n s) :=
  hP.withLmu _ _ (hP.contextsTake f n _ (ite (hP.applyPendingBase s h) h))

theorem frameCore (hP : EventInvariant P) (f : FrameInfo) (n : Nat) (s : State) (h : P s) :
    P (frameCore f n s) :=
  hP.withLmu _ _ (hP.setFlagIf _ _ _ (hP.setFlagIf _ _ _ (hP.framePrep f n s h)))

/-! #### The Current Watch -/

theorem foldPhase (hP : EventInvariant P) (p : Phase) (above : Bool) (s : State) (h : P s) :
    P (foldPhase p above s) :=
  ite (hP.withCw _ s h) (ite (hP.raise _ _ (hP.withCw _ s h)) (hP.withCw _ s h))

theorem trippedStep (hP : EventInvariant P) (p : Phase) (above : Bool) (s : State) (h : P s) :
    P (trippedStep p above s) := by
  unfold Machine.trippedStep
  split
  · exact ite h (hP.withCw _ s h)
  · exact hP.foldPhase p above s h
  · exact h

theorem tripPhase (hP : EventInvariant P) (p : Phase) (s : State) (h : P s) : P (tripPhase p s) := by
  have hfired := hP.fireMarkers hitTrip _ (hP.raise (.trip p s.par.tripAction) _
    (hP.setFlag (.trip p) _ (hP.withCw (s.cw.set p { s.cw.get p with tripped := true }) s h)))
  unfold Machine.tripPhase tripActionBegins
  dsimp only
  split
  · exact hfired
  · exact hP.foldPhase p true _ hfired
  · exact hP.safetyStop _ _ hfired

theorem watchPhase (hP : EventInvariant P) (p : Phase) (current : Int) (s : State) (h : P s) :
    P (watchPhase p current s) :=
  have hcount (above : Bool) : P (countOver p above s) := hP.withCw _ s h
  ite (hP.trippedStep p _ _ (hcount _)) (ite (hP.tripPhase p _ (hcount _)) (hcount _))

theorem watchFrame (hP : EventInvariant P) (i : PerPhase Int) (s : State) (h : P s) : P (watchFrame i s) :=
  hP.watchPhase .c _ _ (hP.watchPhase .b _ _ (hP.watchPhase .a _ s h))

theorem upstreamFault (hP : EventInvariant P) (s : State) (h : P s) : P (upstreamFault s) := by
  unfold Machine.upstreamFault
  split
  · exact h
  · exact hP.safetyStop _ s h
  · exact hP.safetyStop _ s h

/-! #### The arrival of a command -/

theorem writeNumber (hP : EventInvariant P) (i v : Nat) (s : State) (h : P s) : P (writeNumber i v s) := by
  have hbase : P (writePlanBase v s) := ite (hP.sched _ s id h) (hP.sched _ s id h)
  have hfloor : P (writeFoldFloor v s) := hP.withCw _ _ (hP.withPar _ s h)
  have hpar (x : Params) := hP.withPar x s h
  unfold Machine.writeNumber
  exact ite (hpar _) (ite (hpar _) (ite (hpar _) (ite hbase (ite (hpar _) (ite (hpar _) (ite (hpar _)
    (ite hfloor (ite (hpar _) h))))))))

/-- One arm of a command's own rule. -/
theorem arm_snd {α : Type} {c : Prop} [Decidable c] {r q : α × State} (hr : P r.2) (hq : P q.2) :
    P (if c then r else q).2 := by
  split
  · exact hr
  · exact hq

theorem setParamTo (hP : EventInvariant P) (i : Nat) (w : Word) (s : State) (h : P s) :
    P (setParamTo i w s).2 := by
  have hpar (x : Params) := hP.withPar x s h
  unfold Machine.setParamTo
  refine arm_snd h (arm_snd ?_ (arm_snd ?_ (arm_snd ?_ (arm_snd (arm_snd h (hpar _)) ?_))))
  · split
    · exact ite h (hP.withCw _ _ (hpar _))
    · exact h
  · split
    · exact hpar _
    · exact h
  · unfold writeSyncOffset
    split
    · exact hpar _
    · exact hpar _
    · exact h
  · split
    · exact hP.writeNumber i _ s h
    · exact h

theorem raiseAll (hP : EventInvariant P) (ns : List Notice) (s : State) (h : P s) : P (raiseAll ns s) :=
  raiseAll_keeps P hP.choose hP.raise ns s h

theorem emptySet (hP : EventInvariant P) (s : State) (h : P s) : P (emptySet s) :=
  hP.contexts [] s (List.nil_sublist _) h

theorem arriveResetEngine (hP : EventInvariant P) (s : State) (h : P s) : P (arriveResetEngine s).2 :=
  arm_snd h (hP.withFlags _ _ (hP.withMku _ _ (hP.withCw _ _ (hP.cycle 0 _ (by decide)
    (hP.sched _ _ (fun hf => nomatch hf) (hP.emptySet s h))))))

theorem arriveTakeFlags (hP : EventInvariant P) (payload : List Word) (s : State) (h : P s) :
    P (arriveTakeFlags payload s).2 :=
  arm_snd h (hP.withFlags _ s h)

theorem arriveWriteDesc (hP : EventInvariant P) (payload : List Word) (s : State) (h : P s) :
    P (arriveWriteDesc payload s).2 := by
  refine arm_snd h (arm_snd (hP.setFlag _ s h) ?_)
  split
  · exact hP.withEdt _ s h
  · exact h

theorem arriveEraseDesc (hP : EventInvariant P) (payload : List Word) (s : State) (h : P s) :
    P (arriveEraseDesc payload s).2 :=
  arm_snd h (arm_snd (hP.setFlag _ s h) (hP.withEdt _ s h))

theorem arriveWriteSlots (hP : EventInvariant P) (payload : List Word) (s : State) (h : P s) :
    P (arriveWriteSlots payload s).2 := by
  refine arm_snd ?_ h
  split
  · exact hP.withRing _ s h
  · exact h

theorem arriveHalt (hP : EventInvariant P) (s : State) (h : P s) : P (arriveHalt s).2 :=
  arm_snd h (hP.haltNow s h)

theorem arriveRun (hP : EventInvariant P) (s : State) (h : P s) : P (arriveRun s).2 :=
  arm_snd h (hP.sched _ s (fun hf => nomatch hf) h)

theorem arriveStep (hP : EventInvariant P) (s : State) (h : P s) : P (arriveStep s).2 :=
  arm_snd (hP.sched _ s (fun hf => nomatch hf) h) h

theorem arriveAbort (hP : EventInvariant P) (s : State) (h : P s) : P (arriveAbort s).2 :=
  arm_snd h (hP.raiseAll _ _ (hP.contexts _ (s.withSch { s.sch with state := .halted })
    (filterMap_abortCtx_sublist s.cx.set) (hP.sched _ s (fun hf => nomatch hf) h)))

theorem arriveSetCycle (hP : EventInvariant P) (payload : List Word) (s : State) (h : P s) :
    P (arriveSetCycle payload s).2 :=
  arm_snd (hP.cycle _ s (Nat.mod_lt _ (by decide)) h) h

theorem arriveClearFault (hP : EventInvariant P) (s : State) (h : P s) : P (arriveClearFault s).2 :=
  arm_snd (arm_snd (hP.withCw _ _ (hP.withLmu _ _ (hP.sched _ s (fun hf => nomatch hf) h))) h)
    (hP.sched _ s id h)

theorem arriveSetMarker (hP : EventInvariant P) (payload : List Word) (s : State) (h : P s) :
    P (arriveSetMarker payload s).2 := by
  refine arm_snd h ?_
  split
  · exact h
  · exact hP.withMku _ s h

theorem arriveArm (hP : EventInvariant P) (payload : List Word) (s : State) (h : P s) :
    P (arriveArm payload s).2.2 := by
  unfold Machine.arriveArm
  dsimp only
  split
  · exact h
  split
  · exact h
  · next hs =>
    split
    · exact h
    · exact h
    · exact hP.offerEntries .command _ s hs h

theorem ownRule (hP : EventInvariant P) (c : Cmd) (s : State) (h : P s) : P (ownRule c s).2 := by
  unfold Machine.ownRule
  refine arm_snd h (arm_snd h (arm_snd (hP.arriveTakeFlags _ s h) (arm_snd h ?_)))
  refine arm_snd (hP.setParamTo _ _ s h) (arm_snd (hP.arriveResetEngine s h) ?_)
  refine arm_snd (hP.arriveWriteDesc _ s h) (arm_snd h (arm_snd (hP.arriveEraseDesc _ s h) ?_))
  refine arm_snd (hP.arriveWriteSlots _ s h) (arm_snd h (arm_snd (hP.arriveRun s h) ?_))
  refine arm_snd (hP.arriveStep s h) (arm_snd (hP.arriveHalt s h) (arm_snd (hP.arriveAbort s h) ?_))
  refine arm_snd (hP.arriveSetCycle _ s h) (arm_snd (hP.arriveArm _ s h) ?_)
  exact arm_snd (hP.arriveClearFault s h) (arm_snd h (arm_snd (hP.arriveSetMarker _ s h) (arm_snd h h)))

theorem commandArrives (hP : EventInvariant P) (c : Cmd) (s : State) (h : P s) : P (commandArrives c s).2 := by
  unfold Machine.commandArrives
  split
  · exact h
  · exact arm_snd (hP.ownRule c s h) h

end EventInvariant

end Sys2Proof.StepInvariants

namespace Sys2Proof.StepInvariants

open Sys2Proof.Machine Sys2Proof.Safety Sys2Proof.EventDescriptors Sys2Proof.OutputLimits

/-! ### A presented frame -/

/-- The angle of a good frame is one of the 65536 that a SAMPLE frame can carry. -/
def Readable (p : Presented) : Prop := ∀ x, p = .good x → x.theta < 65536

/-- A payload fixed by an answer, or the slots it asks for, fit the longest response, that of READ_CONTEXTS with 8
contexts. -/
def Brief (a : Answer) : Prop :=
  match a with
  | .fixed _ payload => payload.length ≤ 113
  | .later (.slots _ count) => count ≤ 113
  | .later _ => True

theorem readSample_readable (ws : List Word) : Readable (.good (readSample ws)) := by
  intro x hx
  cases hx
  exact Nat.mod_lt _ (by decide)

theorem arm_brief {c : Prop} [Decidable c] {r q : Answer × State} (hr : Brief r.1) (hq : Brief q.1) :
    Brief (if c then r else q).1 := by
  split
  · exact hr
  · exact hq

theorem plain_brief (r : Status × State) : Brief (plain r).1 := Nat.zero_le _

theorem arriveTakeFlags_brief (payload : List Word) (s : State) : Brief (arriveTakeFlags payload s).1 :=
  arm_brief (Nat.zero_le _) (by decide : 1 ≤ 113)

theorem arriveArm_brief (payload : List Word) (s : State) :
    Brief (.fixed (arriveArm payload s).1 (arriveArm payload s).2.1) := by
  have hnone : ([] : List Word).length ≤ 113 := by decide
  unfold arriveArm Brief
  dsimp only
  split
  · exact hnone
  split
  · exact hnone
  split
  · exact hnone
  · exact hnone
  · exact (by decide : 1 ≤ 113)

theorem readSlots_brief (first count : Nat) (s : State) :
    Brief ((if slotRangeOk first count then .later (.slots first count) else .fixed .badIndex [], s) :
      Answer × State).1 := by
  split
  · next h =>
    obtain ⟨-, -, hcount, -⟩ := (CommandChannel.slotRangeOk_iff first count).1 h
    exact Nat.le_trans hcount (by decide)
  · exact Nat.zero_le _

/-- No answer is longer than the response of READ_CONTEXTS. -/
theorem commandArrives_brief (c : Cmd) (s : State) : Brief (commandArrives c s).1 := by
  have hlater {i top : Nat} {q : Query} (hq : Brief (.later q)) :
      Brief ((if top < i then .fixed .badIndex [] else .later q, s) : Answer × State).1 := by
    split
    · exact Nat.zero_le _
    · exact hq
  have hfixed (st : Status) : Brief ((.fixed st [], s) : Answer × State).1 := Nat.zero_le _
  have hown : Brief (ownRule c s).1 := by
    unfold ownRule
    refine arm_brief (by decide : 3 ≤ 113) (arm_brief trivial (arm_brief (arriveTakeFlags_brief _ s) ?_))
    refine arm_brief (hlater trivial) (arm_brief (plain_brief _) (arm_brief (plain_brief _) ?_))
    refine arm_brief (plain_brief _) (arm_brief (hlater trivial) (arm_brief (plain_brief _) ?_))
    refine arm_brief (plain_brief _) (arm_brief (readSlots_brief _ _ s) (arm_brief (plain_brief _) ?_))
    refine arm_brief (plain_brief _) (arm_brief (plain_brief _) (arm_brief (plain_brief _) ?_))
    refine arm_brief (plain_brief _) (arm_brief (arriveArm_brief _ s) (arm_brief (plain_brief _) ?_))
    exact arm_brief trivial (arm_brief (plain_brief _) (arm_brief trivial (hfixed _)))
  unfold commandArrives
  split
  · exact hfixed _
  · exact arm_brief hown (hfixed _)

/-- A property that the parts of a frame's work keep: beside the events, the OUTPUT frame and the response. -/
structure FrameInvariant (P : State → Prop) : Prop extends EventInvariant P where
  output : ∀ (ws : List Word) (n : Nat) (s : State), P s →
    P (s.withDsr { handToDout ws s.dsr with outSeq := n })
  respond : ∀ (c : Cmd) (a : Answer) (s : State), Brief a → P s → P (respond c a s)

namespace FrameInvariant

variable {P : State → Prop}

theorem frameWork (hP : FrameInvariant P) (p : Presented) (f : FrameInfo) (n : Nat) (s : State) (h : P s) :
    P (frameWork p f n s) :=
  hP.output _ _ _ (hP.endStepIf _ _ (hP.runAll f _ _ (hP.frameCore f n s h)))

theorem carryOut (hP : FrameInvariant P) (c : Cmd) (s : State) (h : P s) : P (carryOut c s) :=
  hP.respond c _ _ (commandArrives_brief c s) (hP.commandArrives c s h)

theorem commandRow (hP : FrameInvariant P) (c : Cmd) (s : State) (h : P s) : P (commandRow c s) := by
  unfold Machine.commandRow
  split
  · exact hP.carryOut c s h
  · exact EventInvariant.ite (hP.carryOut c s h) h
  · exact h

/-- Between the DSR's share of an arrival and the tracker's the block may be in a state of its own, `M`. -/
theorem presentFrame (hP : FrameInvariant P) {M : State → Prop} (hM : EventInvariant M) (p : Presented)
    (arrive : ∀ s, P s → M (dsrArrival p s)) (track : ∀ x s, M s → P (trackFrame (shownAs p x) s).2)
    (s : State) (h : P s) : P (presentFrame p s) := by
  have harrival : M (arrival p s).1 ∧
      ∀ c a, (arrival p s).2 = some (c, a) → Brief a := by
    unfold arrival
    split
    · next c _ =>
      have ho : P (if arrivalOrderOpen p c s then chooseFirst s else (true, s)).2 :=
        EventInvariant.arm_snd (hP.chooseFirst s h) h
      dsimp only
      generalize (if arrivalOrderOpen p c s then chooseFirst s else (true, s)) = o at ho ⊢
      split
      · refine ⟨hM.commandArrives c _ (arrive _ ho), fun c' a ha => ?_⟩
        cases ha
        exact commandArrives_brief _ _
      · refine ⟨arrive _ (hP.commandArrives c _ ho), fun c' a ha => ?_⟩
        cases ha
        exact commandArrives_brief _ _
    · exact ⟨arrive s h, fun c a ha => nomatch ha⟩
  obtain ⟨hstate, hbrief⟩ := harrival
  have hwork := hP.frameWork p (trackFrame (shownAs p s) (arrival p s).1).1 s.cx.set.length _
    (track s _ hstate)
  unfold Machine.presentFrame respondIfAny
  dsimp only
  split
  · next c a ha => exact hP.respond c a _ (hbrief c a ha) hwork
  · exact hwork

end FrameInvariant

/-! ### The losses of the links (R139, R143) -/

theorem raise_withDsr (n : Notice) (d : Dsr) (s : State) : raise n (s.withDsr d) = (raise n s).withDsr d := by
  by_cases hmask : maskEnables s.par.notifyMask n = true <;>
    by_cases hfits : noticeFits s.rpq.queue = true <;>
    simp only [raise, State.withDsr_par, State.withDsr_rpq, hmask, hfits, if_true, if_false, Bool.false_eq_true] <;> rfl

theorem raise_withUp (n : Notice) (u : Up) (s : State) : raise n (s.withUp u) = (raise n s).withUp u := by
  by_cases hmask : maskEnables s.par.notifyMask n = true <;>
    by_cases hfits : noticeFits s.rpq.queue = true <;>
    simp only [raise, State.withUp_par, State.withUp_rpq, hmask, hfits, if_true, if_false, Bool.false_eq_true] <;> rfl

theorem reportFault_withDsr (c : FaultCause) (d : Dsr) (s : State) :
    reportFault c (s.withDsr d) = (reportFault c s).withDsr d :=
  raise_withDsr (.fault (faultNow c s)) d (s.withSch { s.sch with fault := s.sch.fault.or (some (faultNow c s)) })

theorem safetyStop_withDsr (c : FaultCause) (d : Dsr) (s : State) :
    safetyStop c (s.withDsr d) = (safetyStop c s).withDsr d := by
  unfold safetyStop
  by_cases h : s.sch.state = .faulted
  · rw [if_pos h, if_pos (show (s.withDsr d).sch.state = .faulted from h)]
    exact reportFault_withDsr c d _
  · rw [if_neg h, if_neg (show (s.withDsr d).sch.state ≠ .faulted from h)]
    exact reportFault_withDsr c d
      (startMute ((s.withSch { s.sch with state := .faulted }).withCx { s.cx with set := [] }))

theorem reportFault_withUp (c : FaultCause) (u : Up) (s : State) :
    reportFault c (s.withUp u) = (reportFault c s).withUp u :=
  raise_withUp (.fault (faultNow c s)) u (s.withSch { s.sch with fault := s.sch.fault.or (some (faultNow c s)) })

theorem safetyStop_withUp (c : FaultCause) (u : Up) (s : State) :
    safetyStop c (s.withUp u) = (safetyStop c s).withUp u := by
  unfold safetyStop
  by_cases h : s.sch.state = .faulted
  · rw [if_pos h, if_pos (show (s.withUp u).sch.state = .faulted from h)]
    exact reportFault_withUp c u _
  · rw [if_neg h, if_neg (show (s.withUp u).sch.state ≠ .faulted from h)]
    exact reportFault_withUp c u
      (startMute ((s.withSch { s.sch with state := .faulted }).withCx { s.cx with set := [] }))

/-- The link timers of a lost downstream link. -/
def downLost (d : Dsr) : Dsr :=
  { d with link := .lost true, timer := none, selfTimer := some 20 }

/-- The link timers of a lost upstream link. -/
def upLost (u : Up) : Up :=
  { u with link := .lost true, timer := none, cadence := some 20 }

/-- Notice and fault of a downstream loss do not meet the links, so that the timer may be started before them. -/
theorem loseDownstream_eq (s : State) :
    loseDownstream s = safetyStop .linkDown (raise (.link false false) (s.withDsr (downLost s.dsr))) := by
  have hdsr : (safetyStop .linkDown (raise (.link false false)
      (s.withDsr { s.dsr with link := .lost true, timer := none }))).dsr =
      { s.dsr with link := .lost true, timer := none } :=
    (safetyStop_only _ _).dsr.trans (raise_only _ _).dsr
  unfold loseDownstream
  dsimp only
  rw [hdsr, raise_withDsr, safetyStop_withDsr, State.withDsr_withDsr, raise_withDsr, safetyStop_withDsr]
  rfl

theorem upstreamFault_withUp (u : Up) (s : State) :
    upstreamFault (s.withUp u) = (upstreamFault s).withUp u := by
  simp only [upstreamFault, State.withUp_par]
  split
  · rfl
  · exact safetyStop_withUp _ u s
  · exact safetyStop_withUp _ u s

theorem upstreamFault_up (s : State) : (upstreamFault s).up = s.up := by
  unfold upstreamFault
  split
  · rfl
  · exact (safetyStop_only _ s).up
  · exact (safetyStop_only _ s).up

/-- Notice and fault of an upstream loss do not meet the links, so that the timer may be started before them. -/
theorem loseUpstream_eq (s : State) :
    loseUpstream s = upstreamFault (raise (.link true false) (s.withUp (upLost s.up))) := by
  have hup : (upstreamFault (raise (.link true false)
      (s.withUp { s.up with link := .lost true, timer := none }))).up =
      { s.up with link := .lost true, timer := none } :=
    (upstreamFault_up _).trans (raise_only _ _).up
  unfold loseUpstream
  dsimp only
  rw [hup, raise_withUp, upstreamFault_withUp, State.withUp_withUp, raise_withUp, upstreamFault_withUp]
  rfl

/-! ### Properties that every step keeps -/

/-- What a receiver's assembly, the Forward Slot and a stored control byte leave alone of the DSR. -/
structure SameTimers (d e : Dsr) : Prop where
  link : e.link = d.link
  timer : e.timer = d.timer
  selfTimer : e.selfTimer = d.selfTimer
  sending : e.sending = d.sending
  outList : e.outList = d.outList

/-- A property that every operation of the block keeps. The self-frame and cadence timers are started while their
link is LOST, and a head report leaves where nothing waits for UOUT. -/
structure StepInvariant (P : State → Prop) : Prop extends FrameInvariant P where
  present : ∀ (p : Presented) (s : State), Readable p → P s → P (presentFrame p s)
  dsr : ∀ (d : Dsr) (s : State), SameTimers s.dsr d → P s → P (s.withDsr d)
  doutEnds : ∀ s : State, P s → P (s.withDsr (doutEnds s.dsr))
  selfTimer : ∀ s : State, s.dsr.link ≠ .up → P s → P (s.withDsr { s.dsr with selfTimer := some 20 })
  downLost : ∀ s : State, P s → P (s.withDsr (downLost s.dsr))
  uin : ∀ (a : Assembly) (s : State), P s → P (s.withUp { s.up with uin := a })
  upAlive : ∀ s : State, P s → P (s.withUp (upAlive s.up))
  cadence : ∀ s : State, s.up.link ≠ .up → P s → P (s.withUp { s.up with cadence := some 20 })
  upLost : ∀ s : State, P s → P (s.withUp (upLost s.up))
  passOn : ∀ (ws : List Word) (s : State), P s → P (passOn ws s)
  uoutEnds : ∀ s : State, P s → P (uoutEnds s)
  headReport : ∀ s : State, s.up.outList = [] → P s → P (sendHeadReport s)
  offerCommand : ∀ (c : Cmd) (s : State), P s → P (offerCommand c s)
  placeHeld : ∀ s : State, P s → P (placeHeld s)
  timers : ∀ s : State, P s → P (timersTick s)
  reset : ∀ s : State, P s → P (powerOn s)

/-! ### The link states on a tick -/

/-- The states of the two links. -/
def LinksAre (l k : Link) (s : State) : Prop := s.dsr.link = l ∧ s.up.link = k

theorem handToDout_link (ws : List Word) (d : Dsr) : (handToDout ws d).link = d.link := by
  unfold handToDout
  split
  · rfl
  · split <;> rfl

theorem takeCommand_dsr_up (s : State) : (takeCommand s).dsr = s.dsr ∧ (takeCommand s).up = s.up := by
  unfold takeCommand
  split <;> exact ⟨rfl, rfl⟩

theorem respond_dsr_up (c : Cmd) (a : Answer) (s : State) :
    (respond c a s).dsr = s.dsr ∧ (respond c a s).up = s.up := by
  rw [respond_answered, answered]
  split <;> exact ⟨rfl, rfl⟩

theorem linksAre_frameInvariant (l k : Link) : FrameInvariant (LinksAre l k) where
  quiet h hs := by
    unfold LinksAre at *
    rwa [h.dsr, h.up]
  raise n s hs := by
    unfold LinksAre at *
    rwa [(raise_only n s).dsr, (raise_only n s).up]
  sched _ _ _ hs := hs
  contexts _ _ _ hs := hs
  arm _ _ _ _ _ _ hs := hs
  stop _ hs := hs
  cycle _ _ _ hs := hs
  output ws n s hs := by
    obtain ⟨hdown, hup⟩ := hs
    exact ⟨(handToDout_link ws s.dsr).trans hdown, hup⟩
  respond c a s _ hs := by
    obtain ⟨hdsr, hup⟩ := respond_dsr_up c a s
    unfold LinksAre at *
    rwa [hdsr, hup]

/-- A self-generated frame moves neither link. -/
theorem selfFrame_links (s : State) : LinksAre s.dsr.link s.up.link (selfFrame s) :=
  (linksAre_frameInvariant s.dsr.link s.up.link).presentFrame
    (linksAre_frameInvariant s.dsr.link s.up.link).toEventInvariant .selfGenerated (fun _ h => h)
    (fun _ _ h => (linksAre_frameInvariant s.dsr.link s.up.link).setFlagIf _ _ _ h) _ ⟨rfl, rfl⟩

theorem placeHeld_dsr_up (s : State) : (placeHeld s).dsr = s.dsr ∧ (placeHeld s).up = s.up := by
  unfold placeHeld
  split
  · split
    · exact takeCommand_dsr_up _
    · exact ⟨rfl, rfl⟩
  · exact ⟨rfl, rfl⟩

theorem placeFreed_dsr_up (s : State) : (placeFreed s).dsr = s.dsr ∧ (placeFreed s).up = s.up := by
  unfold placeFreed
  split
  · split
    · exact placeHeld_dsr_up _
    · exact ⟨rfl, rfl⟩
  · exact ⟨rfl, rfl⟩

theorem sendUp_links (ws : List Word) (s : State) : LinksAre s.dsr.link s.up.link (sendUp ws s) := by
  unfold sendUp
  split <;> exact ⟨rfl, rfl⟩

theorem sendHeadReport_links (s : State) : LinksAre s.dsr.link s.up.link (sendHeadReport s) := by
  unfold sendHeadReport
  split
  · exact ⟨rfl, rfl⟩
  · next r rest _ =>
    obtain ⟨hdsr, hup⟩ := placeFreed_dsr_up (sendUp r.words (s.withRpq { s.rpq with queue := rest }))
    unfold LinksAre
    rw [hdsr, hup]
    exact sendUp_links r.words (s.withRpq { s.rpq with queue := rest })

theorem cadenceExpires_links (s : State) : LinksAre s.dsr.link s.up.link (cadenceExpires s) := by
  unfold cadenceExpires
  dsimp only
  split
  · exact sendHeadReport_links _
  · exact ⟨rfl, rfl⟩

/-- Both links, if LOST, stay so on a tick: nothing but a good frame brings them UP. -/
theorem doTickPart_lost (p : TickPart) (s : State) :
    (s.dsr.link ≠ .up → (doTickPart p s).dsr.link ≠ .up) ∧
      (s.up.link ≠ .up → (doTickPart p s).up.link ≠ .up) := by
  have hsame {t : State} (h : LinksAre s.dsr.link s.up.link t) :
      (s.dsr.link ≠ .up → t.dsr.link ≠ .up) ∧ (s.up.link ≠ .up → t.up.link ≠ .up) := by
    obtain ⟨hdown, hup⟩ := h
    rw [hdown, hup]
    exact ⟨id, id⟩
  cases p with
  | pulse => exact ⟨id, id⟩
  | held =>
    obtain ⟨hdsr, hup⟩ := placeHeld_dsr_up s
    exact hsame ⟨congrArg Dsr.link hdsr, congrArg Up.link hup⟩
  | edge => exact hsame ⟨congrArg Dsr.link (takeEdge_only s).dsr, congrArg Up.link (takeEdge_only s).up⟩
  | downLoss =>
    have hdsr : (loseDownstream s).dsr = StepInvariants.downLost s.dsr := by
      rw [loseDownstream_eq]
      exact (safetyStop_only _ _).dsr.trans (raise_only _ _).dsr
    have hup : (loseDownstream s).up = s.up := by
      rw [loseDownstream_eq]
      exact (safetyStop_only _ _).up.trans (raise_only _ _).up
    rw [doTickPart, hdsr, hup]
    exact ⟨fun _ h => (nomatch h), id⟩
  | selfFrame => exact hsame (selfFrame_links s)
  | upLoss =>
    have hup : (loseUpstream s).up = StepInvariants.upLost s.up := by
      rw [loseUpstream_eq]
      exact (upstreamFault_up _).trans (raise_only _ _).up
    have hdsr : (loseUpstream s).dsr = s.dsr := by
      rw [loseUpstream_eq]
      refine Eq.trans ?_ (raise_only (.link true false) (s.withUp (StepInvariants.upLost s.up))).dsr
      unfold upstreamFault
      split
      · rfl
      · exact (safetyStop_only _ _).dsr
      · exact (safetyStop_only _ _).dsr
    rw [doTickPart, hdsr, hup]
    exact ⟨id, fun _ h => nomatch h⟩
  | cadence => exact hsame (cadenceExpires_links s)

/-- Of the parts of a tick, the self-generated frame and the cadence find their links LOST. -/
def LostWhereDue (parts : List TickPart) (s : State) : Prop :=
  (.selfFrame ∈ parts → s.dsr.link ≠ .up) ∧ (.cadence ∈ parts → s.up.link ≠ .up)

theorem lostWhereDue_doTickPart {parts rest : List TickPart} {s : State} (p : TickPart)
    (hrest : ∀ q, q ∈ rest → q ∈ parts) (h : LostWhereDue parts s) : LostWhereDue rest (doTickPart p s) := by
  obtain ⟨hdown, hup⟩ := h
  obtain ⟨hkeepsDown, hkeepsUp⟩ := doTickPart_lost p s
  exact ⟨fun hq => hkeepsDown (hdown (hrest _ hq)), fun hq => hkeepsUp (hup (hrest _ hq))⟩

theorem lostWhereDue_tickParts (level : Level) (s t : State) (ht : LinksAre s.dsr.link s.up.link t) :
    LostWhereDue (tickParts level s) t := by
  obtain ⟨hdown, hup⟩ := ht
  have hdue {p : TickPart} (hp : p ∈ tickParts level s) (hne : p ≠ .pulse) : p ∈ dueParts level s := by
    unfold tickParts at hp
    split at hp
    · cases hp
    · exact (List.mem_cons.1 hp).resolve_left hne
  constructor
  · intro hself
    have hself := hdue hself (by decide)
    simp only [dueParts, List.mem_append, List.mem_ite_nil_right, List.mem_singleton, reduceCtorEq, and_false,
      or_false, false_or, and_true, selfFrameDue, Bool.and_eq_true, bne_iff_ne] at hself
    rw [hdown]
    exact hself.1
  · intro hcadence
    have hcadence := hdue hcadence (by decide)
    simp only [dueParts, List.mem_append, List.mem_ite_nil_right, List.mem_singleton, reduceCtorEq, and_false,
      or_false, false_or, and_true, cadenceDue, Bool.and_eq_true, bne_iff_ne] at hcadence
    rw [hup]
    exact hcadence.1

theorem timersTick_links (level : Level) (s : State) :
    LinksAre s.dsr.link s.up.link (timersTick (sampleSync level s)) := by
  rw [MarkersAndSync.timersTick_sampleSync]
  exact ⟨rfl, rfl⟩

namespace StepInvariant

variable {P : State → Prop}

/-! #### DIN and UIN -/

theorem goodCommandFrame (hP : StepInvariant P) (ws : List Word) (s : State) (h : P s) :
    P (goodCommandFrame ws s) := by
  unfold Machine.goodCommandFrame
  split
  · exact hP.offerCommand _ s h
  · unfold offerForward
    split
    · exact hP.dsr _ s ⟨rfl, rfl, rfl, rfl, rfl⟩ h
    · exact hP.setFlag _ s h
  · exact hP.setFlag _ s h

theorem dinFrame (hP : StepInvariant P) (ws : List Word) (s : State) (h : P s) : P (dinFrame ws s) :=
  EventInvariant.ite (EventInvariant.ite (hP.goodCommandFrame ws s h) (hP.setFlag _ s h))
    (EventInvariant.ite (hP.present _ s (readSample_readable ws) h) (hP.present _ s (fun _ hx => nomatch hx) h))

theorem dinWord (hP : StepInvariant P) (w : Word) (s : State) (h : P s) : P (dinWord w s) := by
  have hword : P (s.withDsr { s.dsr with din := (assemble s.dsr.din w).1 }) :=
    hP.dsr _ s ⟨rfl, rfl, rfl, rfl, rfl⟩ h
  unfold Machine.dinWord
  dsimp only
  split
  · exact hP.dinFrame _ _ hword
  · exact hword

theorem receiveDin (hP : StepInvariant P) (ws : List Word) (s : State) (h : P s) : P (receiveDin ws s) :=
  receiveDin_keeps P hP.dinWord ws s h

theorem handleUin (hP : StepInvariant P) (ws : List Word) (s : State) (h : P s) : P (handleUin ws s) := by
  unfold Machine.handleUin
  split
  · exact hP.passOn ws _ (hP.watchFrame _ s h)
  split
  · next hleaves =>
    simp only [reportMayLeave, Bool.and_eq_true, List.isEmpty_iff] at hleaves
    obtain ⟨-, -, hempty⟩ := hleaves
    exact hP.headReport s hempty h
  · exact hP.passOn ws s h

theorem goodUinFrame (hP : StepInvariant P) (ws : List Word) (s : State) (h : P s) : P (goodUinFrame ws s) := by
  have hup := hP.upAlive s h
  have hfree := hP.chooseFirst _ hup
  unfold Machine.goodUinFrame
  dsimp only
  split
  · split
    · exact hP.handleUin ws _ (hP.raise _ _ hfree)
    · exact hP.raise _ _ (hP.handleUin ws _ hfree)
  · exact hP.handleUin ws _ (hP.raiseIf _ _ _ hup)

theorem uinWord (hP : StepInvariant P) (w : Word) (s : State) (h : P s) : P (uinWord w s) := by
  have hword := hP.uin (assemble s.up.uin w).1 s h
  unfold Machine.uinWord uinFrame
  dsimp only
  split
  · split
    · exact hP.goodUinFrame _ _ hword
    · exact hP.passOn _ _ (hP.setFlagIf _ _ _ hword)
  · exact hword

theorem receiveUin (hP : StepInvariant P) (ws : List Word) (s : State) (h : P s) : P (receiveUin ws s) :=
  receiveUin_keeps P hP.uinWord ws s h

/-! #### Ticks -/

theorem loseDownstream (hP : StepInvariant P) (s : State) (h : P s) : P (loseDownstream s) := by
  rw [loseDownstream_eq]
  exact hP.safetyStop _ _ (hP.raise _ _ (hP.downLost s h))

theorem loseUpstream (hP : StepInvariant P) (s : State) (h : P s) : P (loseUpstream s) := by
  rw [loseUpstream_eq]
  exact hP.upstreamFault _ (hP.raise _ _ (hP.upLost s h))

theorem selfFrame (hP : StepInvariant P) (s : State) (hlost : s.dsr.link ≠ .up) (h : P s) : P (selfFrame s) :=
  hP.present _ _ (fun _ hx => nomatch hx) (hP.selfTimer s hlost h)

theorem cadenceExpires (hP : StepInvariant P) (s : State) (hlost : s.up.link ≠ .up) (h : P s) :
    P (cadenceExpires s) := by
  have hstarted := hP.cadence s hlost h
  unfold Machine.cadenceExpires
  dsimp only
  split
  · next hleaves =>
    simp only [reportMayLeave, Bool.and_eq_true, List.isEmpty_iff] at hleaves
    obtain ⟨-, hempty⟩ := hleaves
    exact hP.headReport _ hempty hstarted
  · exact hstarted

theorem doTickPart (hP : StepInvariant P) (p : TickPart) (s : State) (hdown : p = .selfFrame → s.dsr.link ≠ .up)
    (hup : p = .cadence → s.up.link ≠ .up) (h : P s) : P (doTickPart p s) := by
  cases p with
  | pulse => exact hP.withMku _ s h
  | held => exact hP.placeHeld s h
  | edge => exact hP.takeEdge s h
  | downLoss => exact hP.loseDownstream s h
  | selfFrame => exact hP.selfFrame s (hdown rfl) h
  | upLoss => exact hP.loseUpstream s h
  | cadence => exact hP.cadenceExpires s (hup rfl) h

theorem runTick (hP : StepInvariant P) (n : Nat) (parts : List TickPart) (s : State)
    (hlost : LostWhereDue parts s) (h : P s) : P (runTick n parts s) := by
  have hpart {parts : List TickPart} {s : State} (p : TickPart) (hp : p ∈ parts) (hlost : LostWhereDue parts s)
      (h : P s) : P (Machine.doTickPart p s) := by
    obtain ⟨hdown, hup⟩ := hlost
    exact hP.doTickPart p s (fun he => hdown (he ▸ hp)) (fun he => hup (he ▸ hp)) h
  induction n generalizing parts s with
  | zero => exact h
  | succ n ih =>
    match parts with
    | [] => exact h
    | [x] =>
      exact ih [] _ (lostWhereDue_doTickPart x (fun _ hq => nomatch hq) hlost)
        (hpart x (List.mem_singleton_self x) hlost h)
    | x :: y :: rest =>
      have hchosen : LostWhereDue (x :: y :: rest) (choose (rest.length + 2) s).2 := hlost
      have hmem : (x :: y :: rest).getD (choose (rest.length + 2) s).1 x ∈ x :: y :: rest := by
        have hlt : (choose (rest.length + 2) s).1 < (x :: y :: rest).length :=
          Nat.mod_lt _ (Nat.succ_pos _)
        rw [List.getD_eq_getElem _ _ hlt]
        exact List.getElem_mem hlt
      exact ih _ _ (lostWhereDue_doTickPart _ (fun _ hq => List.mem_of_mem_eraseIdx hq) hchosen)
        (hpart _ hmem hchosen (hP.choose _ s h))

theorem tick (hP : StepInvariant P) (level : Level) (s : State) (h : P s) : P (tick level s) := by
  have hsample : P (sampleSync level s) := EventInvariant.ite h (EventInvariant.ite (hP.withMku _ s h)
    (hP.withMku _ s h))
  exact hP.runTick _ _ _ (lostWhereDue_tickParts level s _ (timersTick_links level s)) (hP.timers _ hsample)

/-! #### Rows and steps -/

/-- A row whose event is not due changes nothing (log 2). -/
theorem row {c : Prop} [Decidable c] {s t : State} (hs : P s) (ht : c → P t) : P (if c then t else s) := by
  split
  · next hc => exact ht hc
  · exact hs

theorem exec_event (hP : StepInvariant P) {i : Instr} {s t : State} (hc : commandOf i = none) (hs : P s)
    (h : exec i s = .next t) : P t := by
  cases i <;> cases hc <;> cases h
  case powerOnReset => exact hP.reset s hs
  case sampleFrame words => exact hP.receiveDin words s hs
  case commandFrame words => exact hP.receiveDin words s hs
  case selfGeneratedFrame =>
    refine row hs (fun hdue => hP.selfFrame s ?_ hs)
    simp only [selfFrameDue, Bool.and_eq_true, bne_iff_ne] at hdue
    exact hdue.1
  case downstreamLinkLoss => exact row hs (fun _ => hP.loseDownstream s hs)
  case doutFrameSent => exact hP.doutEnds s hs
  case measurementFrame words => exact hP.receiveUin words s hs
  case stageReportFrame words => exact hP.receiveUin words s hs
  case idleFrame words => exact hP.receiveUin words s hs
  case failingUinFrame words => exact hP.receiveUin words s hs
  case upstreamLinkLoss => exact row hs (fun _ => hP.loseUpstream s hs)
  case upstreamCadenceExpiry =>
    refine row hs (fun hdue => hP.cadenceExpires s ?_ hs)
    simp only [cadenceDue, Bool.and_eq_true, bne_iff_ne] at hdue
    exact hdue.1
  case uoutFrameSent => exact hP.uoutEnds s hs
  case syncInEdge => exact row hs (fun _ => hP.takeEdge s hs)
  case pulseEnd => exact row hs (fun _ => hP.withMku _ s hs)
  case trip p => exact row hs (fun _ => hP.tripPhase p _ (hP.withCw _ s hs))
  case lateStart index => exact hP.contextEvent _ _ index s hs
  case gapEnd index => exact hP.contextEvent _ _ index s hs
  case rampInEnd index => exact hP.contextEvent _ _ index s hs
  case rampOutEnd index => exact hP.contextEvent _ _ index s hs
  case flickerHalfChange index => exact hP.contextEvent _ _ index s hs
  case muteRampEnd => exact row hs (fun _ => hP.withLmu _ s hs)
  case unmuteRampEnd => exact row hs (fun _ => hP.withLmu _ s hs)
  case heldResponsePlaced => exact hP.placeHeld s hs
  case undefinedCommandCode code tag payload => exact row hs (fun _ => hP.commandRow _ s hs)
  case microsecondTick level => exact hP.tick level s hs

theorem exec (hP : StepInvariant P) {i : Instr} {s t : State} (hs : P s) (h : exec i s = .next t) : P t := by
  cases hc : commandOf i with
  | some c =>
    rw [exec_of_commandOf s hc] at h
    cases h
    exact hP.commandRow c s hs
  | none => exact hP.exec_event hc hs h

/-- A step runs the front command, or idles. -/
theorem step (hP : StepInvariant P) (hpending : ∀ x s, P s → P (s.withPending x)) {s t : State} (hs : P s)
    (h : step s = .next t) : P t := by
  unfold Machine.step at h
  split at h
  · cases h
    exact hs
  · exact hP.exec (hpending _ s hs) h

end StepInvariant

end Sys2Proof.StepInvariants

namespace Sys2Proof.StepInvariants

open Sys2Proof.Machine Sys2Proof.Safety Sys2Proof.EventDescriptors Sys2Proof.OutputLimits

/-! ### What links, executor and queues leave alone -/

/-- Tracker, Scheduler, contexts and the waiting commands are the same. -/
structure SameCore (s t : State) : Prop where
  ant : t.ant = s.ant
  sch : t.sch = s.sch
  cx : t.cx = s.cx
  pending : t.pending = s.pending

theorem SameCore.trans {s t u : State} (h : SameCore s t) (k : SameCore t u) : SameCore s u :=
  ⟨k.ant.trans h.ant, k.sch.trans h.sch, k.cx.trans h.cx, k.pending.trans h.pending⟩

/-- A part of an operation, after one that leaves these parts the same. -/
theorem SameCore.since {s t u : State} (k : SameCore t u) (h : SameCore s t) : SameCore s u := h.trans k

theorem sameCore_rfl (s : State) : SameCore s s := ⟨rfl, rfl, rfl, rfl⟩

theorem core_of_reports {s t : State} (h : ReportsOnly s t) : SameCore s t :=
  ⟨h.ant, h.sch, h.cx, h.pending⟩

theorem respond_core (c : Cmd) (a : Answer) (s : State) : SameCore s (respond c a s) := by
  rw [respond_answered, answered]
  split <;> exact ⟨rfl, rfl, rfl, rfl⟩

theorem takeCommand_core (s : State) : SameCore s (takeCommand s) := by
  unfold takeCommand
  split <;> exact ⟨rfl, rfl, rfl, rfl⟩

theorem offerCommand_core (c : Cmd) (s : State) : SameCore s (offerCommand c s) := by
  unfold offerCommand
  split
  · exact (takeCommand_core (s.withCmx { s.cmx with buffer := s.cmx.buffer ++ [c] })).since ⟨rfl, rfl, rfl, rfl⟩
  · exact core_of_reports ((setFlag_only _ s).trans (raise_only _ _))

theorem placeHeld_core (s : State) : SameCore s (placeHeld s) := by
  unfold placeHeld
  split
  · next r _ =>
    split
    · exact (takeCommand_core ((s.withRpq { s.rpq with queue := s.rpq.queue ++ [r] }).withCmx
        { s.cmx with exec := .idle })).since ⟨rfl, rfl, rfl, rfl⟩
    · exact sameCore_rfl s
  · exact sameCore_rfl s

theorem placeFreed_core (s : State) : SameCore s (placeFreed s) := by
  unfold placeFreed
  split
  · split
    · exact (core_of_reports (chooseFirst_only s)).trans (placeHeld_core (chooseFirst s).2)
    · exact core_of_reports (chooseFirst_only s)
  · exact sameCore_rfl s

theorem sendUp_core (ws : List Word) (s : State) : SameCore s (sendUp ws s) := by
  unfold sendUp
  split <;> exact ⟨rfl, rfl, rfl, rfl⟩

theorem passOn_core (ws : List Word) (s : State) : SameCore s (passOn ws s) := by
  unfold passOn
  split
  · exact sameCore_rfl s
  · exact sendUp_core ws s

theorem sendHeadReport_core (s : State) : SameCore s (sendHeadReport s) := by
  unfold sendHeadReport
  split
  · exact sameCore_rfl s
  · next r rest _ =>
    have hsent := sendUp_core r.words (s.withRpq { s.rpq with queue := rest })
    exact (hsent.trans (placeFreed_core _)).since ⟨rfl, rfl, rfl, rfl⟩

theorem uoutEnds_core (s : State) : SameCore s (uoutEnds s) := by
  unfold uoutEnds
  split
  · exact sameCore_rfl s
  · split <;> exact ⟨rfl, rfl, rfl, rfl⟩

theorem dsrArrival_core (p : Presented) (s : State) : SameCore s (dsrArrival p s) := by
  cases p with
  | good x =>
    have hflag := core_of_reports (setFlagIf_only (seqGap x s.dsr) .seqGap s)
    have hnotice := core_of_reports (raiseIf_only (s.dsr.link == .lost true) (.link false true)
      ((setFlagIf (seqGap x s.dsr) .seqGap s).withDsr (goodDsr x s.dsr)))
    exact ⟨hnotice.ant.trans hflag.ant, hnotice.sch.trans hflag.sch, hnotice.cx.trans hflag.cx,
      hnotice.pending.trans hflag.pending⟩
  | failing => exact ⟨rfl, rfl, rfl, rfl⟩
  | selfGenerated => exact sameCore_rfl s

/-- A property of tracker, Scheduler, contexts and waiting commands alone. -/
structure CoreInvariant (P : State → Prop) : Prop extends EventInvariant P where
  same : ∀ {s t : State}, SameCore s t → P s → P t
  track : ∀ (p : Shown) (s : State), (∀ theta b, p = .good theta b → theta < 65536) → P s →
    P (s.withAnt (track p s.ant).2)
  reset : ∀ s : State, P s → P (powerOn s)

namespace CoreInvariant

variable {P : State → Prop}

theorem frameInvariant (hP : CoreInvariant P) : FrameInvariant P where
  toEventInvariant := hP.toEventInvariant
  output _ _ s h := hP.same (s := s) ⟨rfl, rfl, rfl, rfl⟩ h
  respond c a s _ h := hP.same (respond_core c a s) h

theorem present (hP : CoreInvariant P) (p : Presented) (s : State) (hp : Readable p) (h : P s) :
    P (presentFrame p s) := by
  refine hP.frameInvariant.presentFrame hP.toEventInvariant p (fun s h => hP.same (dsrArrival_core p s) h)
    (fun x s h => hP.setFlagIf _ _ _ (hP.track _ s (fun theta b hshown => ?_) h)) s h
  cases p with
  | good y =>
    cases hshown
    exact hp y rfl
  | failing => cases hshown
  | selfGenerated => cases hshown

/-- Every step keeps a property of these parts that the events keep. -/
theorem stepInvariant (hP : CoreInvariant P) : StepInvariant P where
  toFrameInvariant := hP.frameInvariant
  present := hP.present
  dsr _ s _ h := hP.same (s := s) ⟨rfl, rfl, rfl, rfl⟩ h
  doutEnds s h := hP.same (s := s) ⟨rfl, rfl, rfl, rfl⟩ h
  selfTimer s _ h := hP.same (s := s) ⟨rfl, rfl, rfl, rfl⟩ h
  downLost s h := hP.same (s := s) ⟨rfl, rfl, rfl, rfl⟩ h
  uin _ s h := hP.same (s := s) ⟨rfl, rfl, rfl, rfl⟩ h
  upAlive s h := hP.same (s := s) ⟨rfl, rfl, rfl, rfl⟩ h
  cadence s _ h := hP.same (s := s) ⟨rfl, rfl, rfl, rfl⟩ h
  upLost s h := hP.same (s := s) ⟨rfl, rfl, rfl, rfl⟩ h
  passOn ws s h := hP.same (passOn_core ws s) h
  uoutEnds s h := hP.same (uoutEnds_core s) h
  headReport s _ h := hP.same (sendHeadReport_core s) h
  offerCommand c s h := hP.same (offerCommand_core c s) h
  placeHeld s h := hP.same (placeHeld_core s) h
  timers s h := hP.same (s := s) ⟨rfl, rfl, rfl, rfl⟩ h
  reset := hP.reset

end CoreInvariant

/-! ### The queue of waiting commands -/

theorem pending_coreInvariant (q : List Instr) : CoreInvariant (·.pending = q) where
  quiet h hs := h.pending.trans hs
  raise n s hs := (raise_only n s).pending.trans hs
  sched _ _ _ hs := hs
  contexts _ _ _ hs := hs
  arm _ _ _ _ _ _ hs := hs
  stop _ hs := hs
  cycle _ _ _ hs := hs
  same h hs := h.pending.trans hs
  track _ _ _ hs := hs
  reset _ hs := hs

/-- Settles O2: every arm of the dispatch goes on, and the queue is an invariant of all operations. -/
theorem everyCommandGoesOnAndKeepsTheQueue : Obligations.EveryCommandGoesOnAndKeepsTheQueue := by
  unfold Obligations.EveryCommandGoesOnAndKeepsTheQueue
  intro i s
  have hnext : ∃ t, exec i s = .next t := by
    cases i <;> exact ⟨_, rfl⟩
  obtain ⟨t, ht⟩ := hnext
  exact ⟨t, ht, (pending_coreInvariant s.pending).stepInvariant.exec rfl ht⟩

/-! ### The active set -/

theorem activeSetLegal_congr {s t : State} (hcx : t.cx = s.cx) (hsch : t.sch = s.sch) (h : ActiveSetLegal s) :
    ActiveSetLegal t := by
  unfold ActiveSetLegal at *
  rwa [hcx, hsch]

theorem not_mem_indices {set : List Ctx} {i : Nat} (h : findCtx set i = none) : i ∉ set.map (·.index) := by
  have habsent := List.find?_eq_none.1 (show set.find? _ = none from h)
  simp only [List.mem_map, not_exists, not_and]
  intro c hc hi
  exact habsent c hc (by simp [hi])

theorem activeSetLegal_coreInvariant : CoreInvariant ActiveSetLegal where
  quiet h := activeSetLegal_congr h.cx h.sch
  raise n s := activeSetLegal_congr (raise_only n s).cx (raise_only n s).sch
  sched x s hx h := by
    obtain ⟨hlen, hdistinct, hempty⟩ := h
    exact ⟨hlen, hdistinct, fun hf => hempty (hx hf)⟩
  contexts set s hset h := by
    obtain ⟨hlen, hdistinct, hempty⟩ := h
    refine ⟨?_, hdistinct.sublist hset, fun hf => ?_⟩
    · have := hset.length_le
      simp only [List.length_map] at this
      exact Nat.le_trans this hlen
    · have := hset.length_le
      simp only [List.length_map, hempty hf, List.length_nil] at this
      exact List.eq_nil_of_length_eq_zero (Nat.le_zero.1 this)
  arm c n s hs hroom habsent h := by
    obtain ⟨-, hdistinct, -⟩ := h
    refine ⟨?_, ?_, fun hf => absurd hf hs⟩
    · simp only [State.withCx_cx, List.length_append, List.length_singleton]
      exact hroom
    · simp only [State.withCx_cx, List.map_append, List.map_cons, List.map_nil]
      refine List.nodup_append.2 ⟨hdistinct, List.nodup_singleton _, fun i hi j hj hij => ?_⟩
      rw [List.mem_singleton.1 hj] at hij
      exact not_mem_indices habsent (hij ▸ hi)
  stop s _ := ⟨Nat.zero_le _, List.nodup_nil, fun _ => rfl⟩
  cycle _ _ _ h := h
  same h := activeSetLegal_congr h.cx h.sch
  track _ _ _ h := h
  reset _ _ := ⟨Nat.zero_le _, List.nodup_nil, fun hf => nomatch hf⟩

/-- Settles O7: an arming finds the set with room, without the index and outside FAULTED; all else leaves
contexts out or changes what is not their index. -/
theorem everyStepKeepsTheActiveSetLegal : Obligations.EveryStepKeepsTheActiveSetLegal := by
  unfold Obligations.EveryStepKeepsTheActiveSetLegal
  exact fun s t hs h => activeSetLegal_coreInvariant.stepInvariant.step (fun _ _ h => h) hs h

/-! ### The Angle Tracker -/

theorem anglesLegal_congr {s t : State} (hant : t.ant = s.ant) (h : AnglesLegal s) : AnglesLegal t := by
  unfold AnglesLegal at *
  rwa [hant]

theorem classify_step_lt {thetaP thetaC : Nat} (hp : thetaP < 65536) (hc : thetaC < 65536) :
    (classify thetaP thetaC).2 < 65536 := by
  unfold classify
  split
  · dsimp only
    omega
  · split
    · exact Nat.lt_of_le_of_lt (Nat.sub_le _ _) hc
    · exact (by decide : 0 < 65536)

theorem cycleAfter_lt (cls : FrameClass) {cycle : Nat} (h : cycle < 65536) : cycleAfter cls cycle < 65536 := by
  unfold cycleAfter
  split
  · exact Nat.mod_lt _ (by decide)
  · exact h

theorem trackFrom_anglesLegal {thetaP thetaC : Nat} (good : Bool) (s : State) (hp : thetaP < 65536)
    (hc : thetaC < 65536) (h : AnglesLegal s) :
    AnglesLegal (s.withAnt (trackFrom thetaP thetaC good s.ant).2) := by
  obtain ⟨-, hlast, hcycle, -, -⟩ := h
  have hstep := classify_step_lt hp hc
  refine ⟨fun a ha => ?_, ?_, cycleAfter_lt _ hcycle, hp, hstep⟩
  · cases ha
    exact hc
  · cases good with
    | true => exact hstep
    | false => exact hlast

theorem establish_anglesLegal {theta : Nat} (s : State) (hc : theta < 65536) (h : AnglesLegal s) :
    AnglesLegal (s.withAnt (establish theta s.ant).2) := by
  obtain ⟨-, -, hcycle, -, -⟩ := h
  refine ⟨fun a ha => ?_, (by decide : 0 < 65536), hcycle, hc, (by decide : 0 < 65536)⟩
  cases ha
  exact hc

theorem track_anglesLegal (p : Shown) (s : State) (hp : ∀ theta b, p = .good theta b → theta < 65536)
    (h : AnglesLegal s) : AnglesLegal (s.withAnt (track p s.ant).2) := by
  have hheld : ∀ a, s.ant.thetaP = some a → a < 65536 := h.1
  unfold track
  split
  · next theta => exact establish_anglesLegal s (hp theta true rfl) h
  · next theta _ => exact establish_anglesLegal s (hp theta false rfl) h
  · next theta thetaP heq => exact trackFrom_anglesLegal true s (hheld thetaP heq) (hp theta false rfl) h
  · obtain ⟨hangle, hlast, hcycle, -, -⟩ := h
    exact ⟨hangle, hlast, hcycle, (by decide : 0 < 65536), (by decide : 0 < 65536)⟩
  · next thetaP heq =>
    exact trackFrom_anglesLegal false s (hheld thetaP heq) (Nat.mod_lt _ (by decide)) h

theorem anglesLegal_coreInvariant : CoreInvariant AnglesLegal where
  quiet h := anglesLegal_congr h.ant
  raise n s := anglesLegal_congr (raise_only n s).ant
  sched _ _ _ h := h
  contexts _ _ _ h := h
  arm _ _ _ _ _ _ h := h
  stop _ h := h
  cycle n s hn h := by
    obtain ⟨hangle, hlast, -, hstart, hstep⟩ := h
    exact ⟨hangle, hlast, hn, hstart, hstep⟩
  same h := anglesLegal_congr h.ant
  track := track_anglesLegal
  reset s _ := by
    have hzero : 0 < 65536 := by decide
    exact ⟨fun _ ha => (nomatch ha), hzero, hzero, hzero, hzero⟩

/-- Settles O11: a frame's angle has 16 bits, an extrapolated one and the counter are taken mod 65536. -/
theorem everyStepKeepsTheAnglesInRange : Obligations.EveryStepKeepsTheAnglesInRange := by
  unfold Obligations.EveryStepKeepsTheAnglesInRange
  exact fun s t hs h => anglesLegal_coreInvariant.stepInvariant.step (fun _ _ h => h) hs h

/-! ### The link timers -/

/-- The timers of the downstream link. -/
def DownTimers (d : Dsr) : Prop :=
  (d.link = .up → Runs d.timer 160 ∧ d.selfTimer = none) ∧
  (d.link ≠ .up → d.timer = none ∧ Runs d.selfTimer 20)

/-- The timers of the upstream link. -/
def UpTimers (u : Up) : Prop :=
  (u.link = .up → Runs u.timer 160 ∧ u.cadence = none) ∧
  (u.link ≠ .up → u.timer = none ∧ Runs u.cadence 20)

/-- An UP downstream link has an angle. -/
def AngleOnLink (s : State) : Prop := s.dsr.link = .up → s.ant.thetaP.isSome = true

theorem linksLegal_iff (s : State) :
    LinksLegal s ↔ DownTimers s.dsr ∧ UpTimers s.up ∧ AngleOnLink s := by
  unfold LinksLegal DownTimers UpTimers AngleOnLink
  grind

theorem runs_full {top : Nat} (h : 1 ≤ top) : Runs (some top) top := ⟨top, rfl, h, Nat.le_refl _⟩

theorem runs_timerTick {t : Option Nat} {top : Nat} (h : Runs t top) : Runs (timerTick t) top := by
  obtain ⟨n, rfl, hlow, hhigh⟩ := h
  unfold timerTick
  dsimp only
  split
  · exact ⟨n, rfl, hlow, hhigh⟩
  · exact ⟨n - 1, rfl, by omega, by omega⟩

theorem DownTimers.congr {d e : Dsr} (hl : e.link = d.link) (ht : e.timer = d.timer)
    (hself : e.selfTimer = d.selfTimer) (h : DownTimers d) : DownTimers e := by
  unfold DownTimers at *
  rwa [hl, ht, hself]

theorem DownTimers.restart {d : Dsr} (hl : d.link ≠ .up) (h : DownTimers d) :
    DownTimers { d with selfTimer := some 20 } :=
  ⟨fun hup => absurd hup hl, fun hlost => ⟨(h.2 hlost).1, runs_full (by decide)⟩⟩

theorem downTimers_goodDsr (x : Sample) {d : Dsr} (h : DownTimers d) : DownTimers (goodDsr x d) := by
  refine ⟨fun _ => ⟨runs_full (by decide), ?_⟩, fun hlost => absurd rfl hlost⟩
  unfold goodDsr
  dsimp only
  split
  · next hup => exact (h.1 hup).2
  · rfl

theorem downTimers_failingDsr {d : Dsr} (h : DownTimers d) : DownTimers (failingDsr d) := by
  by_cases hup : d.link = .up
  · exact DownTimers.congr (d := d) rfl rfl (if_pos hup) h
  · exact DownTimers.congr (d := { d with selfTimer := some 20 }) rfl rfl (if_neg hup) (h.restart hup)

theorem downTimers_downLost (d : Dsr) : DownTimers (downLost d) :=
  ⟨fun hup => (nomatch hup), fun _ => ⟨rfl, runs_full (by decide)⟩⟩

theorem upTimers_upLost (u : Up) : UpTimers (upLost u) :=
  ⟨fun hup => (nomatch hup), fun _ => ⟨rfl, runs_full (by decide)⟩⟩

theorem upTimers_upAlive {u : Up} (h : UpTimers u) : UpTimers (upAlive u) := by
  refine ⟨fun _ => ⟨runs_full (by decide), ?_⟩, fun hlost => absurd rfl hlost⟩
  unfold upAlive
  dsimp only
  split
  · next hup => exact (h.1 hup).2
  · rfl

theorem doutEnds_timers (d : Dsr) :
    (doutEnds d).link = d.link ∧ (doutEnds d).timer = d.timer ∧ (doutEnds d).selfTimer = d.selfTimer := by
  unfold doutEnds doutNext
  split
  · exact ⟨rfl, rfl, rfl⟩
  · split
    · exact ⟨rfl, rfl, rfl⟩
    · split <;> exact ⟨rfl, rfl, rfl⟩
  · split <;> exact ⟨rfl, rfl, rfl⟩

theorem handToDout_timers (ws : List Word) (d : Dsr) :
    (handToDout ws d).timer = d.timer ∧ (handToDout ws d).selfTimer = d.selfTimer := by
  unfold handToDout
  split
  · exact ⟨rfl, rfl⟩
  · split <;> exact ⟨rfl, rfl⟩

/-- The timers of the upstream link go with its state. -/
theorem UpTimers.congr {u v : Up} (hl : v.link = u.link) (ht : v.timer = u.timer) (hc : v.cadence = u.cadence)
    (h : UpTimers u) : UpTimers v := by
  unfold UpTimers at *
  rwa [hl, ht, hc]

theorem sendUp_timers (ws : List Word) (s : State) (h : UpTimers s.up) : UpTimers (sendUp ws s).up := by
  unfold sendUp
  split <;> exact h

theorem sendHeadReport_timers (s : State) (h : UpTimers s.up) : UpTimers (sendHeadReport s).up := by
  unfold sendHeadReport
  split
  · exact h
  · next r rest _ =>
    rw [(placeFreed_dsr_up _).2]
    exact sendUp_timers _ (s.withRpq { s.rpq with queue := rest }) h

theorem uoutEnds_timers (s : State) (h : UpTimers s.up) : UpTimers (uoutEnds s).up := by
  unfold uoutEnds
  split
  · exact h
  · split <;> exact h

/-- A property of DSR, upstream merge and held angle, as an event invariant. -/
theorem eventInvariant_of_links {P : State → Prop}
    (hP : ∀ s t, t.dsr = s.dsr → t.up = s.up → t.ant.thetaP = s.ant.thetaP → P s → P t) : EventInvariant P where
  quiet {s t} h hs := hP s t h.dsr h.up (congrArg Ant.thetaP h.ant) hs
  raise n s hs := hP s _ (raise_only n s).dsr (raise_only n s).up (congrArg Ant.thetaP (raise_only n s).ant) hs
  sched _ s _ hs := hP s _ rfl rfl rfl hs
  contexts _ s _ hs := hP s _ rfl rfl rfl hs
  arm _ _ s _ _ _ hs := hP s _ rfl rfl rfl hs
  stop s hs := hP s _ rfl rfl rfl hs
  cycle _ s _ hs := hP s _ rfl rfl rfl hs

theorem linksLegal_congr (s t : State) (hdsr : t.dsr = s.dsr) (hup : t.up = s.up)
    (hangle : t.ant.thetaP = s.ant.thetaP) (h : LinksLegal s) : LinksLegal t := by
  unfold LinksLegal at *
  rwa [hdsr, hup, hangle]

/-- Between the DSR's share of an arrival and the tracker's, the link that a good frame has brought UP may still
be without an angle. -/
def Arrived (p : Presented) (s : State) : Prop :=
  DownTimers s.dsr ∧ UpTimers s.up ∧ ((∃ x, p = .good x) ∨ AngleOnLink s)

theorem arrived_invariant (p : Presented) : EventInvariant (Arrived p) :=
  eventInvariant_of_links (fun s t hdsr hup hangle h => by
    unfold Arrived AngleOnLink at *
    rwa [hdsr, hup, hangle])

theorem dsrArrival_arrived (p : Presented) (s : State) (h : LinksLegal s) : Arrived p (dsrArrival p s) := by
  obtain ⟨hdown, hup, hangle⟩ := (linksLegal_iff s).1 h
  cases p with
  | good x =>
    have hdsr : (goodArrival x s).dsr = goodDsr x s.dsr := (raiseIf_only _ _ _).dsr
    have hsame : (goodArrival x s).up = s.up :=
      (raiseIf_only _ _ _).up.trans (setFlagIf_only (seqGap x s.dsr) .seqGap s).up
    refine ⟨?_, ?_, .inl ⟨x, rfl⟩⟩
    · rw [dsrArrival, hdsr]
      exact downTimers_goodDsr x hdown
    · rw [dsrArrival, hsame]
      exact hup
  | failing => exact ⟨downTimers_failingDsr hdown, hup, .inr hangle⟩
  | selfGenerated => exact ⟨hdown, hup, .inr hangle⟩

/-- The tracker keeps a held angle. -/
theorem track_isSome (p : Shown) (a : Ant) (h : a.thetaP.isSome = true) : (track p a).2.thetaP.isSome = true := by
  unfold track
  split
  · rfl
  · rfl
  · rfl
  · exact h
  · rfl

/-- A good frame leaves an angle, whether it is the first one or not. -/
theorem track_good_isSome (theta : Nat) (b : Bool) (a : Ant) :
    (track (.good theta b) a).2.thetaP.isSome = true := by
  unfold track
  split
  · rfl
  · rfl
  · rfl
  · next h _ => cases h
  · next h _ => cases h

theorem trackFrame_linksLegal (p : Presented) (x s : State) (h : Arrived p s) :
    LinksLegal (trackFrame (shownAs p x) s).2 := by
  obtain ⟨hdown, hup, hangle⟩ := h
  have hsame := setFlagIf_only ((track (shownAs p x) s.ant).1.cls == .reversal) .angleReverse
    (s.withAnt (track (shownAs p x) s.ant).2)
  refine linksLegal_congr (s.withAnt (track (shownAs p x) s.ant).2) _ hsame.dsr hsame.up
    (congrArg Ant.thetaP hsame.ant) ((linksLegal_iff _).2 ⟨hdown, hup, fun hlink => ?_⟩)
  rcases hangle with ⟨y, rfl⟩ | hangle
  · exact track_good_isSome _ _ _
  · exact track_isSome _ _ (hangle hlink)

theorem linksLegal_withDsr {d : Dsr} {s : State} (hdown : DownTimers d) (hlink : d.link = .up → s.dsr.link = .up)
    (h : LinksLegal s) : LinksLegal (s.withDsr d) := by
  obtain ⟨-, hup, hangle⟩ := (linksLegal_iff s).1 h
  exact (linksLegal_iff _).2 ⟨hdown, hup, fun hl => hangle (hlink hl)⟩

theorem linksLegal_withUp {u : Up} {s t : State} (hup : UpTimers u) (hu : t.up = u) (hdsr : t.dsr = s.dsr)
    (hant : t.ant = s.ant) (h : LinksLegal s) : LinksLegal t := by
  obtain ⟨hdown, -, hangle⟩ := (linksLegal_iff s).1 h
  refine (linksLegal_iff _).2 ⟨hdsr ▸ hdown, hu ▸ hup, ?_⟩
  unfold AngleOnLink
  rw [hdsr, hant]
  exact hangle

theorem linksLegal_frameInvariant : FrameInvariant LinksLegal where
  toEventInvariant := eventInvariant_of_links linksLegal_congr
  output ws n s h := by
    obtain ⟨hdown, -, -⟩ := (linksLegal_iff s).1 h
    obtain ⟨htimer, hself⟩ := handToDout_timers ws s.dsr
    exact linksLegal_withDsr (hdown.congr (handToDout_link ws s.dsr) htimer hself)
      (fun hl => (handToDout_link ws s.dsr).symm.trans hl) h
  respond c a s _ h := by
    obtain ⟨hdsr, hup⟩ := respond_dsr_up c a s
    exact linksLegal_congr s _ hdsr hup (congrArg Ant.thetaP (respond_core c a s).ant) h

theorem timersTick_linksLegal (s : State) (h : LinksLegal s) : LinksLegal (timersTick s) := by
  obtain ⟨hdown, hup, hangle⟩ := (linksLegal_iff s).1 h
  refine (linksLegal_iff _).2 ⟨?_, ?_, hangle⟩
  · unfold DownTimers timersTick
    by_cases hl : s.dsr.link = .up
    · simpa [hl] using And.imp_left runs_timerTick (hdown.1 hl)
    · simpa [hl] using And.imp_right runs_timerTick (hdown.2 hl)
  · unfold UpTimers timersTick
    by_cases hl : s.up.link = .up
    · simpa [hl] using And.imp_left runs_timerTick (hup.1 hl)
    · simpa [hl] using And.imp_right runs_timerTick (hup.2 hl)

theorem linksLegal_of_upstream {s t : State} (hup : UpTimers s.up → UpTimers t.up) (hdsr : t.dsr = s.dsr)
    (hcore : SameCore s t) (h : LinksLegal s) : LinksLegal t :=
  linksLegal_withUp (hup ((linksLegal_iff s).1 h).2.1) rfl hdsr hcore.ant h

theorem sendUp_dsr (ws : List Word) (s : State) : (sendUp ws s).dsr = s.dsr := by
  unfold sendUp
  split <;> rfl

theorem passOn_linksLegal (ws : List Word) (s : State) (h : LinksLegal s) : LinksLegal (passOn ws s) := by
  unfold passOn
  split
  · exact h
  · exact linksLegal_of_upstream (sendUp_timers ws s) (sendUp_dsr ws s) (sendUp_core ws s) h

theorem sendHeadReport_dsr (s : State) : (sendHeadReport s).dsr = s.dsr := by
  unfold sendHeadReport
  split
  · rfl
  · exact (placeFreed_dsr_up _).1.trans (sendUp_dsr _ _)

theorem uoutEnds_dsr (s : State) : (uoutEnds s).dsr = s.dsr := by
  unfold uoutEnds
  split
  · rfl
  · split <;> rfl

theorem offerCommand_dsr_up (c : Cmd) (s : State) :
    (offerCommand c s).dsr = s.dsr ∧ (offerCommand c s).up = s.up := by
  unfold offerCommand
  split
  · exact takeCommand_dsr_up _
  · have h := (setFlag_only .cmdOverrun s).trans (raise_only (.overrun c.tag) _)
    exact ⟨h.dsr, h.up⟩

theorem linksLegal_stepInvariant : StepInvariant LinksLegal where
  toFrameInvariant := linksLegal_frameInvariant
  present p s _ h := linksLegal_frameInvariant.presentFrame (arrived_invariant p) p (dsrArrival_arrived p)
    (trackFrame_linksLegal p) s h
  dsr d s hd h := by
    obtain ⟨hdown, -, -⟩ := (linksLegal_iff s).1 h
    exact linksLegal_withDsr (hdown.congr hd.link hd.timer hd.selfTimer) (fun hl => hd.link.symm.trans hl) h
  doutEnds s h := by
    obtain ⟨hdown, -, -⟩ := (linksLegal_iff s).1 h
    obtain ⟨hlink, htimer, hself⟩ := doutEnds_timers s.dsr
    exact linksLegal_withDsr (hdown.congr hlink htimer hself) (fun hl => hlink.symm.trans hl) h
  selfTimer s hl h := linksLegal_withDsr (((linksLegal_iff s).1 h).1.restart hl) id h
  downLost s h := linksLegal_withDsr (downTimers_downLost s.dsr) (fun hl => nomatch hl) h
  uin a s h := h
  upAlive s h := linksLegal_withUp (s := s) (upTimers_upAlive ((linksLegal_iff s).1 h).2.1) rfl rfl rfl h
  cadence s hl h := by
    obtain ⟨-, hup, -⟩ := (linksLegal_iff s).1 h
    exact linksLegal_withUp (s := s) (u := { s.up with cadence := some 20 })
      ⟨fun hu => absurd hu hl, fun hlost => ⟨(hup.2 hlost).1, runs_full (by decide)⟩⟩ rfl rfl rfl h
  upLost s h := linksLegal_withUp (s := s) (upTimers_upLost s.up) rfl rfl rfl h
  passOn := passOn_linksLegal
  uoutEnds s h := linksLegal_of_upstream (uoutEnds_timers s) (uoutEnds_dsr s) (uoutEnds_core s) h
  headReport s _ h :=
    linksLegal_of_upstream (sendHeadReport_timers s) (sendHeadReport_dsr s) (sendHeadReport_core s) h
  offerCommand c s h := by
    obtain ⟨hdsr, hup⟩ := offerCommand_dsr_up c s
    exact linksLegal_congr s _ hdsr hup (congrArg Ant.thetaP (offerCommand_core c s).ant) h
  placeHeld s h := by
    obtain ⟨hdsr, hup⟩ := placeHeld_dsr_up s
    exact linksLegal_congr s _ hdsr hup (congrArg Ant.thetaP (placeHeld_core s).ant) h
  timers := timersTick_linksLegal
  reset s _ := (linksLegal_iff _).2
    ⟨⟨fun hup => (nomatch hup), fun _ => ⟨rfl, runs_full (by decide)⟩⟩,
      ⟨fun hup => (nomatch hup), fun _ => ⟨rfl, runs_full (by decide)⟩⟩, fun hup => (nomatch hup)⟩

/-- Settles O10: each change of a link's state starts and stops its timers, and a good frame leaves an angle. -/
theorem everyStepKeepsTheLinkTimersLegal : Obligations.EveryStepKeepsTheLinkTimersLegal := by
  unfold Obligations.EveryStepKeepsTheLinkTimersLegal
  exact fun s t hs h => linksLegal_stepInvariant.step (fun _ _ h => h) hs h

end Sys2Proof.StepInvariants

namespace Sys2Proof.StepInvariants

open Sys2Proof.Machine Sys2Proof.Safety Sys2Proof.EventDescriptors Sys2Proof.OutputLimits

/-! ### The length of reports -/

theorem sealed_length (ws : List Word) : (sealed ws).length = ws.length + 1 := by
  simp [sealed]

theorem noticeFrame_length (n : Notice) (lost : Bool) : (noticeFrame n lost).length = 5 := by
  have hpayload : (noticePayload n).length = 2 := by
    cases n <;> rfl
  rw [noticeFrame, sealed_length, List.length_append, hpayload]
  rfl

theorem responseFrame_length (code : Code) (tag : Tag) (st : Status) (payload : List Word) :
    (responseFrame code tag st payload).length = payload.length + 4 := by
  rw [responseFrame, sealed_length, List.length_append]
  simp only [List.length_cons, List.length_nil]
  omega

theorem contextsPayload_length (s : State) : (contextsPayload s).length = 14 * s.cx.set.length + 1 := by
  have hrecords (set : List Ctx) : (set.flatMap contextRecord).length = 14 * set.length := by
    induction set with
    | nil => rfl
    | cons c set ih =>
      have hrecord : (contextRecord c).length = 14 := rfl
      rw [List.flatMap_cons, List.length_append, ih, hrecord, List.length_cons]
      omega
  rw [contextsPayload, List.length_cons, hrecords]

/-- With at most 8 contexts in the set no payload is longer than that of READ_CONTEXTS. -/
theorem formAnswer_length {a : Answer} {s : State} (ha : Brief a) (hset : s.cx.set.length ≤ 8) :
    (formAnswer a s).2.length ≤ 113 := by
  cases a with
  | fixed st payload => exact ha
  | later q =>
    cases q with
    | status =>
      have hrecord : (faultRecord s.sch.fault).length = 2 := by cases s.sch.fault <;> rfl
      simp [formAnswer, statusPayload, hrecord]
    | desc i =>
      unfold formAnswer descAnswer
      dsimp only
      split
      · exact (by decide : 8 ≤ 113)
      · exact Nat.zero_le _
    | slots first count =>
      have hcount : count ≤ 113 := ha
      simpa [formAnswer, slotsPayload] using hcount
    | contexts =>
      have hlen := contextsPayload_length s
      unfold formAnswer
      dsimp only
      omega
    | markers => exact (by decide : 13 ≤ 113)
    | param i => exact (by decide : 1 ≤ 113)

/-! ### Queues and transmit lists -/

/-- The Report Queue is within its capacity, and so are its reports. -/
def QueueFits (q : List Report) : Prop :=
  q.length ≤ 8 ∧ noticeCount q ≤ 6 ∧ ∀ r ∈ q, r.words.length ≤ 117

/-- A response fits a report, and is no notice. -/
def ResponseFits (r : Report) : Prop := r.words.length ≤ 117 ∧ r.notice = false

/-- Command Buffer and executor are within their capacity. -/
def CommandsFit (c : Cmx) : Prop :=
  (∀ r, c.exec = .holding r → ResponseFits r) ∧ c.buffer.length ≤ 2 ∧ (c.exec = .idle → c.buffer = [])

/-- The UOUT list is within its capacity, and empty while UOUT is silent. -/
def UoutFits (u : Up) : Prop := waitingWords u.outList ≤ 512 ∧ (u.sending = none → u.outList = [])

/-- The DOUT list is within its capacity, and empty while DOUT is silent. -/
def DoutFits (d : Dsr) : Prop := d.outList.length ≤ 8 ∧ (d.sending = .nothing → d.outList = [])

/-- The five parts of the capacity invariant. -/
structure AllFit (s : State) : Prop where
  reports : QueueFits s.rpq.queue
  commands : CommandsFit s.cmx
  contexts : s.cx.set.length ≤ 8
  uout : UoutFits s.up
  dout : DoutFits s.dsr

theorem queuesFit_iff (s : State) : QueuesFit s ↔ AllFit s := by
  constructor
  · rintro ⟨hlen, hcount, hwords, hheld, hset, hup, hbuffer, hidle, hdown, hdsilent, husilent⟩
    exact ⟨⟨hlen, hcount, fun r hr => hwords r (.inl hr)⟩,
      ⟨fun r hr => ⟨hwords r (.inr hr), hheld r hr⟩, hbuffer, hidle⟩, hset, ⟨hup, husilent⟩, hdown, hdsilent⟩
  · rintro ⟨⟨hlen, hcount, hqueue⟩, ⟨hholding, hbuffer, hidle⟩, hset, ⟨hup, husilent⟩, hdown, hdsilent⟩
    exact ⟨hlen, hcount, fun r hr => hr.elim (hqueue r) (fun h => (hholding r h).1),
      fun r hr => (hholding r hr).2, hset, hup, hbuffer, hidle, hdown, hdsilent, husilent⟩

theorem QueueFits.append_notice {q : List Report} (n : Notice) (lost : Bool) (hroom : noticeFits q = true)
    (h : QueueFits q) : QueueFits (q ++ [{ notice := true, words := noticeFrame n lost }]) := by
  obtain ⟨-, -, hwords⟩ := h
  obtain ⟨hcount, hlen⟩ := (Bool.and_eq_true _ _).mp hroom
  have hcount : noticeCount q < 6 := of_decide_eq_true hcount
  have hlen : q.length < 8 := of_decide_eq_true hlen
  refine ⟨?_, ?_, fun r hr => ?_⟩
  · simpa using hlen
  · simpa [noticeCount] using hcount
  · rcases List.mem_append.1 hr with hr | hr
    · exact hwords r hr
    · rw [List.mem_singleton.1 hr, noticeFrame_length]
      decide

theorem QueueFits.append_response {q : List Report} {r : Report} (hroom : q.length < 8) (hr : ResponseFits r)
    (h : QueueFits q) : QueueFits (q ++ [r]) := by
  obtain ⟨-, hcount, hwords⟩ := h
  obtain ⟨hlen, hnotice⟩ := hr
  refine ⟨?_, ?_, fun x hx => ?_⟩
  · simpa using hroom
  · simpa [noticeCount, hnotice] using hcount
  · rcases List.mem_append.1 hx with hx | hx
    · exact hwords x hx
    · rw [List.mem_singleton.1 hx]
      exact hlen

theorem QueueFits.tail {r : Report} {q : List Report} (h : QueueFits (r :: q)) : QueueFits q := by
  obtain ⟨hlen, hcount, hwords⟩ := h
  refine ⟨Nat.le_of_succ_le hlen, Nat.le_trans ?_ hcount, fun x hx => hwords x (List.mem_cons_of_mem r hx)⟩
  unfold noticeCount
  exact ((List.sublist_cons_self r q).filter _).length_le

theorem raise_queueFits (n : Notice) (s : State) (h : QueueFits s.rpq.queue) :
    QueueFits (raise n s).rpq.queue := by
  unfold raise
  split
  · split
    · next hroom => exact h.append_notice n _ hroom
    · exact h
  · exact h

theorem commandsFit_afterResponse {buffer : List Cmd} (h : buffer.length ≤ 2) :
    CommandsFit (afterResponse buffer) := by
  cases buffer with
  | nil => exact ⟨fun _ hr => (nomatch hr), h, fun _ => rfl⟩
  | cons c rest => exact ⟨fun _ hr => (nomatch hr), Nat.le_of_succ_le h, fun hi => nomatch hi⟩

/-- An IDLE executor takes the one command that waits. -/
theorem commandsFit_takeCommand (s : State) (hheld : ∀ r, s.cmx.exec = .holding r → ResponseFits r)
    (hbuffer : s.cmx.buffer.length ≤ 2) : CommandsFit (takeCommand s).cmx := by
  unfold takeCommand
  split
  · next c rest _ hb =>
    rw [hb] at hbuffer
    exact ⟨fun _ hr => (nomatch hr), Nat.le_of_succ_le hbuffer, fun hi => nomatch hi⟩
  · next hnone =>
    refine ⟨hheld, hbuffer, fun hi => ?_⟩
    cases hb : s.cmx.buffer with
    | nil => rfl
    | cons c rest => exact (hnone c rest hi hb).elim

theorem AllFit.mono {s t : State} (h : AllFit s) (hrpq : t.rpq.queue = s.rpq.queue) (hcmx : t.cmx = s.cmx)
    (hset : t.cx.set.length ≤ s.cx.set.length) (hup : t.up = s.up) (hdsr : t.dsr = s.dsr) : AllFit t :=
  ⟨hrpq ▸ h.reports, hcmx ▸ h.commands, Nat.le_trans hset h.contexts, hup ▸ h.uout, hdsr ▸ h.dout⟩

theorem AllFit.withDsr {s : State} (h : AllFit s) {d : Dsr} (hd : DoutFits d) : AllFit (s.withDsr d) :=
  ⟨h.reports, h.commands, h.contexts, h.uout, hd⟩

theorem AllFit.withUp {s : State} (h : AllFit s) {u : Up} (hu : UoutFits u) : AllFit (s.withUp u) :=
  ⟨h.reports, h.commands, h.contexts, hu, h.dout⟩

theorem allFit_eventInvariant : EventInvariant AllFit where
  quiet h hs := hs.mono (congrArg Rpq.queue h.rpq) h.cmx (Nat.le_of_eq (congrArg (·.set.length) h.cx)) h.up h.dsr
  raise n s hs :=
    have hsame := raise_only n s
    ⟨raise_queueFits n s hs.reports, hsame.cmx ▸ hs.commands, hsame.cx ▸ hs.contexts, hsame.up ▸ hs.uout,
      hsame.dsr ▸ hs.dout⟩
  sched _ _ _ hs := ⟨hs.reports, hs.commands, hs.contexts, hs.uout, hs.dout⟩
  contexts set s hset hs := by
    have hlen := hset.length_le
    simp only [List.length_map] at hlen
    exact ⟨hs.reports, hs.commands, Nat.le_trans hlen hs.contexts, hs.uout, hs.dout⟩
  arm c n s _ hroom _ hs := by
    refine ⟨hs.reports, hs.commands, ?_, hs.uout, hs.dout⟩
    simp only [State.withCx_cx, List.length_append, List.length_singleton]
    exact hroom
  stop s hs := ⟨hs.reports, hs.commands, Nat.zero_le _, hs.uout, hs.dout⟩
  cycle _ _ _ hs := ⟨hs.reports, hs.commands, hs.contexts, hs.uout, hs.dout⟩

theorem handToDout_fits (ws : List Word) {d : Dsr} (h : DoutFits d) : DoutFits (handToDout ws d) := by
  obtain ⟨hlen, hsilent⟩ := h
  unfold handToDout
  split
  · exact ⟨hlen, fun hs => nomatch hs⟩
  · next hbusy =>
    split
    · next hroom =>
      refine ⟨?_, fun hs => (hbusy hs).elim⟩
      simpa [Config.doutCapacity] using hroom
    · exact ⟨hlen, hsilent⟩

theorem doutEnds_fits {d : Dsr} (h : DoutFits d) : DoutFits (doutEnds d) := by
  have hnext {d : Dsr} (h : d.outList.length ≤ 8) : DoutFits (doutNext d) := by
    unfold doutNext
    split
    · next hempty => exact ⟨h, fun _ => hempty⟩
    · next e rest hlist =>
      rw [hlist] at h
      exact ⟨Nat.le_of_succ_le h, fun hs => nomatch hs⟩
  unfold doutEnds
  split
  · exact h
  · split
    · exact ⟨h.1, fun hs => nomatch hs⟩
    · exact hnext h.1
  · exact hnext h.1

theorem respond_allFit (c : Cmd) (a : Answer) (s : State) (ha : Brief a) (h : AllFit s) :
    AllFit (respond c a s) := by
  have hresponse : ResponseFits
      { notice := false, words := responseFrame c.code c.tag (formAnswer a s).1 (formAnswer a s).2 } := by
    refine ⟨?_, rfl⟩
    have hlen := formAnswer_length ha h.contexts
    dsimp only
    rw [responseFrame_length]
    omega
  obtain ⟨-, hbuffer, -⟩ := h.commands
  rw [respond_answered, answered]
  split
  · next hroom =>
    exact ⟨h.reports.append_response hroom hresponse, commandsFit_afterResponse hbuffer, h.contexts, h.uout,
      h.dout⟩
  · refine ⟨h.reports, ⟨fun r hr => ?_, hbuffer, fun hi => nomatch hi⟩, h.contexts, h.uout, h.dout⟩
    cases hr
    exact hresponse

theorem allFit_frameInvariant : FrameInvariant AllFit where
  toEventInvariant := allFit_eventInvariant
  output ws _ _ h := h.withDsr (handToDout_fits ws h.dout)
  respond := respond_allFit

theorem placeHeld_allFit (s : State) (h : AllFit s) : AllFit (placeHeld s) := by
  obtain ⟨hheld, hbuffer, -⟩ := h.commands
  cases hexec : s.cmx.exec with
  | idle => rwa [placeHeld, hexec]
  | executing c => rwa [placeHeld, hexec]
  | holding r =>
    rw [placeHeld_holding r s hexec]
    split
    · next hroom =>
      exact ⟨h.reports.append_response hroom (hheld r hexec), commandsFit_afterResponse hbuffer, h.contexts,
        h.uout, h.dout⟩
    · exact h

theorem placeFreed_allFit (s : State) (h : AllFit s) : AllFit (placeFreed s) := by
  have hfree := allFit_eventInvariant.chooseFirst s h
  unfold placeFreed
  split
  · exact EventInvariant.ite (placeHeld_allFit _ hfree) hfree
  · exact h

/-- A frame takes its place for UOUT where the list holds it. -/
theorem sendUp_allFit (ws : List Word) (s : State)
    (hroom : s.up.sending.isSome = true → waitingWords s.up.outList + ws.length ≤ 512) (h : AllFit s) :
    AllFit (sendUp ws s) := by
  unfold sendUp
  split
  · exact h.withUp ⟨h.uout.1, fun hs => nomatch hs⟩
  · next hsending =>
    have hwords := hroom (by rw [hsending]; rfl)
    refine h.withUp ⟨?_, fun hs => ?_⟩
    · simpa [waitingWords] using hwords
    · rw [hsending] at hs
      cases hs

theorem passOn_allFit (ws : List Word) (s : State) (h : AllFit s) : AllFit (passOn ws s) := by
  unfold passOn
  split
  · exact h
  · next hfits =>
    refine sendUp_allFit ws s (fun hs => Nat.le_of_not_lt fun hover => hfits ?_) h
    exact (Bool.and_eq_true _ _).mpr ⟨hs, decide_eq_true hover⟩

theorem sendHeadReport_allFit (s : State) (hempty : s.up.outList = []) (h : AllFit s) :
    AllFit (sendHeadReport s) := by
  unfold sendHeadReport
  split
  · exact h
  · next r rest hqueue =>
    have hreports := h.reports
    rw [hqueue] at hreports
    have hlen : r.words.length ≤ 117 := hreports.2.2 r List.mem_cons_self
    refine placeFreed_allFit _ (sendUp_allFit _ _ (fun _ => ?_)
      ⟨hreports.tail, h.commands, h.contexts, h.uout, h.dout⟩)
    simp only [State.withRpq_up, hempty, waitingWords, List.map_nil, List.sum_nil]
    omega

theorem uoutEnds_allFit (s : State) (h : AllFit s) : AllFit (uoutEnds s) := by
  obtain ⟨hwords, -⟩ := h.uout
  unfold uoutEnds
  split
  · exact h
  · split
    · next hempty => exact h.withUp ⟨hwords, fun _ => hempty⟩
    · next ws rest hlist =>
      refine h.withUp ⟨?_, fun hs => nomatch hs⟩
      rw [hlist] at hwords
      simp only [waitingWords, List.map_cons, List.sum_cons] at hwords ⊢
      omega

theorem offerCommand_allFit (c : Cmd) (s : State) (h : AllFit s) : AllFit (offerCommand c s) := by
  unfold offerCommand
  split
  · next hroom =>
    have hfits := commandsFit_takeCommand (s.withCmx { s.cmx with buffer := s.cmx.buffer ++ [c] })
      h.commands.1 (by simpa [Config.bufferCapacity] using hroom)
    obtain ⟨hdsr, hup⟩ := takeCommand_dsr_up (s.withCmx { s.cmx with buffer := s.cmx.buffer ++ [c] })
    have hcore := takeCommand_core (s.withCmx { s.cmx with buffer := s.cmx.buffer ++ [c] })
    refine ⟨?_, hfits, hcore.cx ▸ h.contexts, hup ▸ h.uout, hdsr ▸ h.dout⟩
    unfold takeCommand
    split <;> exact h.reports
  · exact allFit_eventInvariant.raise _ _ (allFit_eventInvariant.setFlag _ s h)

theorem dsrArrival_allFit (p : Presented) (s : State) (h : AllFit s) : AllFit (dsrArrival p s) := by
  cases p with
  | good x =>
    have hflag := allFit_eventInvariant.setFlagIf (seqGap x s.dsr) .seqGap s h
    have hnotice := allFit_eventInvariant.raiseIf (s.dsr.link == .lost true) (.link false true) _
      (hflag.withDsr (d := goodDsr x s.dsr) h.dout)
    exact ⟨hnotice.reports, hnotice.commands, hnotice.contexts, hnotice.uout, hnotice.dout⟩
  | failing => exact (allFit_eventInvariant.setFlag _ s h).withDsr h.dout
  | selfGenerated => exact h

theorem trackFrame_allFit (p : Shown) (s : State) (h : AllFit s) : AllFit (trackFrame p s).2 :=
  allFit_eventInvariant.setFlagIf _ _ _ (show AllFit (s.withAnt (track p s.ant).2) from
    ⟨h.reports, h.commands, h.contexts, h.uout, h.dout⟩)

theorem allFit_stepInvariant : StepInvariant AllFit where
  toFrameInvariant := allFit_frameInvariant
  present p s _ h := allFit_frameInvariant.presentFrame allFit_eventInvariant p (dsrArrival_allFit p)
    (fun x s h => trackFrame_allFit (shownAs p x) s h) s h
  dsr d s hd h := by
    obtain ⟨hlen, hsilent⟩ := h.dout
    exact h.withDsr ⟨hd.outList ▸ hlen, fun hs => hd.outList.trans (hsilent (hd.sending.symm.trans hs))⟩
  doutEnds s h := h.withDsr (doutEnds_fits h.dout)
  selfTimer s _ h := h.withDsr h.dout
  downLost s h := h.withDsr h.dout
  uin _ s h := h.withUp h.uout
  upAlive s h := h.withUp h.uout
  cadence s _ h := h.withUp h.uout
  upLost s h := h.withUp h.uout
  passOn := passOn_allFit
  uoutEnds := uoutEnds_allFit
  headReport := sendHeadReport_allFit
  offerCommand := offerCommand_allFit
  placeHeld := placeHeld_allFit
  timers s h := ⟨h.reports, h.commands, h.contexts, h.uout, h.dout⟩
  reset s _ := ⟨⟨Nat.zero_le _, Nat.zero_le _, fun _ hr => nomatch hr⟩,
    ⟨fun _ hr => (nomatch hr), Nat.zero_le _, fun _ => rfl⟩, Nat.zero_le _, ⟨Nat.zero_le _, fun _ => rfl⟩,
    Nat.zero_le _, fun _ => rfl⟩

/-- Settles O5: the capacities of queue, buffer, set and transmit lists as five parts of one invariant. -/
theorem everyStepKeepsTheQueuesInTheirCapacity : Obligations.EveryStepKeepsTheQueuesInTheirCapacity := by
  unfold Obligations.EveryStepKeepsTheQueuesInTheirCapacity
  intro s t hs h
  rw [queuesFit_iff] at hs ⊢
  exact allFit_stepInvariant.step
    (fun _ _ h => ⟨h.reports, h.commands, h.contexts, h.uout, h.dout⟩) hs h

end Sys2Proof.StepInvariants

namespace Sys2Proof.LinkRows

open Sys2Proof.Machine Sys2Proof.Safety Sys2Proof.EventDescriptors Sys2Proof.OutputLimits
open Sys2Proof.StepInvariants

/-! ### Reset -/

/-- Settles O3: every item is a field of the reset state; per phase and per marker the four values are listed. -/
theorem powerOnResetRestoresEveryItem : Obligations.PowerOnResetRestoresEveryItem := by
  unfold Obligations.PowerOnResetRestoresEveryItem
  intro s
  have hphase {α : Type} (x : α) (p : Phase) : (⟨x, x, x⟩ : PerPhase α).get p = x := by
    cases p <;> rfl
  have hmarker (m : Marker) (k : Nat) (hk : k < 4) : (⟨m, m, m, m⟩ : Markers).get k = m := by
    interval_cases k <;> rfl
  exact ⟨powerOn s, rfl, rfl, rfl, rfl, rfl, rfl, hphase 0, hphase 0, rfl, rfl, rfl, rfl, hphase _,
    hmarker _, rfl, rfl, rfl, rfl, rfl, rfl, rfl, rfl, rfl, rfl, rfl⟩

/-- Settles O4: five of the invariants are those that a step to the reset state keeps; the tables are empty. -/
theorem resetMeetsTheInvariants : Obligations.ResetMeetsTheInvariants := by
  unfold Obligations.ResetMeetsTheInvariants
  refine ⟨?_, ⟨rfl, rfl⟩, ?_, muteLegal_limitInvariant.reset, foldLegal_limitInvariant.reset, ?_, ?_⟩
  · exact ⟨Nat.zero_le _, Nat.zero_le _, by simp [State.reset], by simp [State.reset], Nat.zero_le _,
      Nat.zero_le _, Nat.zero_le _, fun _ => rfl, Nat.zero_le _, fun _ => rfl, fun _ => rfl⟩
  · exact ⟨Nat.zero_le _, List.nodup_nil, fun hf => nomatch hf⟩
  · exact ⟨fun hup => (nomatch hup), fun _ => ⟨rfl, runs_full (by decide)⟩, fun hup => (nomatch hup),
      fun _ => ⟨rfl, runs_full (by decide)⟩⟩
  · exact ⟨fun _ ha => (nomatch ha), by decide, by decide, by decide, by decide⟩

/-! ### The class of a frame and the crossing test -/

theorem classify_of_boundary {thetaP thetaC : Nat} (h : 49152 ≤ thetaP ∧ thetaC < 16384) :
    classify thetaP thetaC = (.boundary, thetaC + 65536 - thetaP) := if_pos h

theorem classify_of_advance {thetaP thetaC : Nat} (h : ¬(49152 ≤ thetaP ∧ thetaC < 16384))
    (hle : thetaP ≤ thetaC) : classify thetaP thetaC = (.advance, thetaC - thetaP) :=
  (if_neg h).trans (if_pos hle)

theorem classify_of_reversal {thetaP thetaC : Nat} (h : ¬(49152 ≤ thetaP ∧ thetaC < 16384))
    (hlt : thetaC < thetaP) : classify thetaP thetaC = (.reversal, 0) :=
  (if_neg h).trans (if_neg (Nat.not_le.2 hlt))

/-- Settles O12: the three rows of the table. -/
theorem frameClassFollowsTheTable : Obligations.FrameClassFollowsTheTable := by
  unfold Obligations.FrameClassFollowsTheTable
  intro thetaP thetaC good a hp hc
  refine ⟨rfl, fun h => ?_, fun h hle => ?_, fun h hlt => ?_⟩
  · simp only [trackFrom, classify_of_boundary h, cycleAfter, if_true, true_and, and_true]
    omega
  · simp only [trackFrom, classify_of_advance h hle, cycleAfter, reduceCtorEq, if_false, true_and, and_true]
    omega
  · simp only [trackFrom, classify_of_reversal h hlt, cycleAfter, reduceCtorEq, if_false, true_and]

theorem crosses_iff (f : FrameInfo) (a : Nat) :
    crosses f a = true ↔ 0 < (a + 65536 - f.start) % 65536 ∧ (a + 65536 - f.start) % 65536 ≤ f.step := by
  simp only [crosses, Bool.and_eq_true, decide_eq_true_eq]

theorem crosses_step_zero {f : FrameInfo} (a : Nat) (h : f.step = 0) : crosses f a = false := by
  rw [Bool.eq_false_iff, ne_eq, crosses_iff]
  omega

/-- The angles that a window crosses are those at the distances 1 to `step` from its start. -/
theorem crossed_eq_image {f : FrameInfo} (hstart : f.start < 65536) (hstep : f.step < 65536) :
    (Finset.range 65536).filter (fun a => crosses f a = true) =
      (Finset.Icc 1 f.step).image (fun d => (f.start + d) % 65536) := by
  ext a
  simp only [Finset.mem_filter, Finset.mem_range, Finset.mem_image, Finset.mem_Icc, crosses_iff]
  constructor
  · rintro ⟨ha, hpos, hle⟩
    exact ⟨(a + 65536 - f.start) % 65536, ⟨hpos, hle⟩, by omega⟩
  · rintro ⟨d, ⟨hpos, hle⟩, rfl⟩
    omega

theorem length_filter_range (n : Nat) (p : Nat → Bool) :
    ((List.range n).filter p).length = ((Finset.range n).filter (fun a => p a = true)).card := by
  rw [← List.toFinset_card_of_nodup (List.nodup_range.filter p), List.toFinset_filter, List.toFinset_range]

/-- Distances below 65536 name distinct angles, so a window of `step` crosses `step` angles. -/
theorem crossed_count {f : FrameInfo} (hstart : f.start < 65536) (hstep : f.step < 65536) :
    ((List.range 65536).filter (crosses f)).length = f.step := by
  rw [length_filter_range, crossed_eq_image hstart hstep, Finset.card_image_of_injOn, Nat.card_Icc,
    Nat.add_sub_cancel]
  intro d hd e he hde
  simp only [Finset.coe_Icc, Set.mem_Icc] at hd he
  dsimp only at hde
  omega

/-- Settles O13: the test by its distance, and the windows that the three classes hold. -/
theorem crossingTestOfAWindow : Obligations.CrossingTestOfAWindow := by
  unfold Obligations.CrossingTestOfAWindow
  refine ⟨fun f a hstart ha => ?_, fun f a h => crosses_step_zero a h, fun f hstart => ?_,
    fun f hstart hpos hstep => ?_, fun f => crossed_count, fun thetaP thetaC good a hp hc => ?_,
    fun theta a => ⟨rfl, rfl⟩⟩
  · rw [crosses_iff]
    omega
  · rw [Bool.eq_false_iff, ne_eq, crosses_iff]
    omega
  · rw [crosses_iff]
    omega
  · by_cases hboundary : 49152 ≤ thetaP ∧ thetaC < 16384
    · simp only [trackFrom, classify_of_boundary hboundary, reduceCtorEq, false_implies, and_true, crosses_iff,
        forall_const]
      omega
    · by_cases hle : thetaP ≤ thetaC
      · simp only [trackFrom, classify_of_advance hboundary hle, reduceCtorEq, false_implies, and_true,
          true_and, Bool.eq_false_iff, ne_eq, crosses_iff, forall_const]
        omega
      · simp only [trackFrom, classify_of_reversal hboundary (Nat.lt_of_not_le hle), reduceCtorEq,
          false_implies, true_and, implies_true]

/-! ### COMMAND frames on DIN -/

theorem exec_commandFrame {ws : List Word} {s : State} (hone : oneFrame ws = true) (hdin : s.dsr.din = .header)
    (htype : headerType (ws.headD 0) = typeCommand) :
    exec (.commandFrame ws) s =
      .next (if dinGood ws then goodCommandFrame ws s else setFlag .cmdCheck s) := by
  have hframe := receiveDin_whole ws s hone hdin
  rw [dinFrame, if_pos htype] at hframe
  exact congrArg Host.Outcome.next hframe

/-- A command offered to a buffer with a place joins it, or is taken at once. -/
theorem offerCommand_accepted (c : Cmd) (s : State) (h : s.cmx.buffer.length < 2) :
    offerCommand c s =
      { s with
        cmx :=
          if s.cmx.exec = .idle then afterResponse (s.cmx.buffer ++ [c])
          else { s.cmx with buffer := s.cmx.buffer ++ [c] } } := by
  have hroom : s.cmx.buffer.length < Config.bufferCapacity := h
  rw [offerCommand, if_pos hroom]
  cases hexec : s.cmx.exec with
  | idle =>
    cases hb : s.cmx.buffer <;> simp [takeCommand, afterResponse, State.withCmx, hexec]
  | executing held => simp [takeCommand, State.withCmx, hexec]
  | holding r => simp [takeCommand, State.withCmx, hexec]

/-- Settles O23: `offerCommand` with a place and without one. -/
theorem engineCommandIsAcceptedOrOverruns : Obligations.EngineCommandIsAcceptedOrOverruns := by
  unfold Obligations.EngineCommandIsAcceptedOrOverruns
  rintro ws s ⟨hone, hgood, htype, hdin⟩ hsub
  have hoffer : goodCommandFrame ws s = offerCommand (readCommand ws) s := by
    rw [goodCommandFrame, hsub]
    rfl
  rw [exec_commandFrame hone hdin htype, if_pos hgood, hoffer]
  constructor
  · intro hroom
    rw [offerCommand_accepted _ s hroom]
    rfl
  · intro hfull
    have hover : ¬s.cmx.buffer.length < Config.bufferCapacity := Nat.not_lt.2 hfull
    rw [offerCommand, if_neg hover]
    rfl

/-- Settles O24: the destinations of a good frame, and a failing one. -/
theorem otherCommandFramesAreForwardedOrDropped : Obligations.OtherCommandFramesAreForwardedOrDropped := by
  unfold Obligations.OtherCommandFramesAreForwardedOrDropped
  intro ws s
  have hoffer (hsub : headerSub (ws.headD 0) = 1) : goodCommandFrame ws s = offerForward ws s := by
    rw [goodCommandFrame, hsub]
    rfl
  refine ⟨?_, ?_, ?_, ?_⟩
  · rintro ⟨hone, hgood, htype, hdin⟩ hsub hslot
    rw [exec_commandFrame hone hdin htype, if_pos hgood, hoffer hsub, offerForward, hslot]
    rfl
  · rintro ⟨hone, hgood, htype, hdin⟩ hsub hslot
    obtain ⟨stored, hstored⟩ := Option.ne_none_iff_exists'.1 hslot
    rw [exec_commandFrame hone hdin htype, if_pos hgood, hoffer hsub, offerForward, hstored]
    rfl
  · rintro ⟨hone, hgood, htype, hdin⟩ hsub
    rw [exec_commandFrame hone hdin htype, if_pos hgood]
    unfold goodCommandFrame
    split
    · next h => omega
    · next h => omega
    · rfl
  · rintro ⟨hone, hbad, hdin⟩ htype
    rw [exec_commandFrame hone hdin htype, hbad]
    rfl

/-! ### Frames on UIN -/

theorem sendUp_eq_placed (ws : List Word) (s : State) : sendUp ws s = { s with up := placed ws s.up } := by
  unfold sendUp placed
  split
  · next h => simp only [h, Option.isNone_none, if_true]; rfl
  · next h => simp only [h, Option.isNone_some, Bool.false_eq_true, if_false]; rfl

theorem passOn_eq_forwarded (ws : List Word) (s : State) :
    passOn ws s = { s with up := forwarded ws s.up } := by
  unfold passOn forwarded
  rw [sendUp_eq_placed, placed]
  cases s.up.sending with
  | none => rfl
  | some sent =>
    by_cases hroom : waitingWords s.up.outList + ws.length ≤ 512
    · have hroom' : (s.up.outList.map List.length).sum + ws.length ≤ 512 := hroom
      simp [hroom', Config.uoutWords, Nat.not_lt.2 hroom]
    · have hroom' : ¬(s.up.outList.map List.length).sum + ws.length ≤ 512 := hroom
      simp [hroom', Config.uoutWords, Nat.lt_of_not_le hroom]

/-- Without a declared loss a good frame is handled with the link UP. -/
theorem goodUinFrame_of_up {ws : List Word} {s : State} (h : s.up.link ≠ .lost true) :
    goodUinFrame ws s = handleUin ws { s with up := alive s.up } := by
  have hlost : (s.up.link == .lost true) = false := beq_false_of_ne h
  simp only [goodUinFrame, recoveryOrderOpen, hlost, Bool.false_and, Bool.false_eq_true, if_false, raiseIf]
  rfl

/-- At the end of a declared loss LINK notice and handling meet in an open order. -/
theorem goodUinFrame_of_lost {ws : List Word} {s : State} (h : s.up.link = .lost true)
    (htype : headerType (ws.headD 0) ≠ typeStageReport) :
    goodUinFrame ws s =
        handleUin ws (raise (.link true true) { s with up := alive s.up, freeCount := s.freeCount + 1 }) ∨
      goodUinFrame ws s =
        raise (.link true true) (handleUin ws { s with up := alive s.up, freeCount := s.freeCount + 1 }) := by
  have hopen : recoveryOrderOpen ws s = true := by
    simp only [recoveryOrderOpen, h, beq_self_eq_true, Bool.true_and, bne_iff_ne]
    exact htype
  unfold goodUinFrame
  rw [if_pos hopen]
  dsimp only
  split
  · exact .inl rfl
  · exact .inr rfl

/-- Settles O26: the frame is handled with the link UP, and its LINK notice comes first. -/
theorem stageReportFrameIsPassedOn : Obligations.StageReportFrameIsPassedOn := by
  unfold Obligations.StageReportFrameIsPassedOn
  rintro ws s ⟨hone, hgood, htype, huin⟩
  have hhandle (u : State) : handleUin ws u = passOn ws u := by
    simp only [handleUin, htype, show typeStageReport ≠ typeMeasurement by decide, if_false,
      show typeStageReport ≠ typeIdle by decide, decide_false, Bool.false_and, Bool.false_eq_true]
  have hexec : exec (.stageReportFrame ws) s = .next (goodUinFrame ws s) := by
    have hframe := receiveUin_whole ws s hone huin
    rw [uinFrame, if_pos hgood] at hframe
    exact congrArg Host.Outcome.next hframe
  rw [hexec]
  constructor
  · intro hlink
    rw [goodUinFrame_of_up hlink, hhandle, passOn_eq_forwarded]
  · intro hlink
    have hopen : ¬recoveryOrderOpen ws s = true := by
      simp only [recoveryOrderOpen, htype, bne_self_eq_false, Bool.and_false, Bool.false_eq_true, not_false_eq_true]
    rw [goodUinFrame, if_neg hopen, hhandle, passOn_eq_forwarded, hlink]
    have hup : (raise (.link true true) { s with up := alive s.up }).up = alive s.up := (raise_only _ _).up
    exact congrArg (fun u => Host.Outcome.next { raise (.link true true) { s with up := alive s.up } with
      up := forwarded ws u }) hup

theorem handleUin_idle {ws : List Word} (htype : headerType (ws.headD 0) = typeIdle) (s : State) :
    IdleHandled ws s (handleUin ws s) := by
  have hhandle : handleUin ws s = if reportMayLeave s then sendHeadReport s else passOn ws s := by
    simp only [handleUin, htype, show typeIdle ≠ typeMeasurement by decide, if_false, decide_true,
      Bool.true_and]
  rw [hhandle]
  unfold IdleHandled
  cases hqueue : s.rpq.queue with
  | nil =>
    have hstays : ¬reportMayLeave s = true := by simp [reportMayLeave, hqueue]
    dsimp only
    rw [if_neg hstays, passOn_eq_forwarded]
  | cons r rest =>
    refine ⟨fun hempty => ?_, fun hlist => ?_⟩
    · have hleaves : reportMayLeave s = true := by simp [reportMayLeave, hqueue, hempty]
      rw [if_pos hleaves, sendHeadReport, hqueue]
      dsimp only
      rw [sendUp_eq_placed]
      exact placeFreed_spec _
    · have hstays : ¬reportMayLeave s = true := by simp [reportMayLeave, hlist]
      rw [if_neg hstays, passOn_eq_forwarded]

/-- Settles O27: what an IDLE frame brings, in one of the two orders at the end of a declared loss. -/
theorem idleFrameCarriesTheHeadReport : Obligations.IdleFrameCarriesTheHeadReport := by
  unfold Obligations.IdleFrameCarriesTheHeadReport
  rintro ws s ⟨hone, hgood, htype, huin⟩
  have hexec : exec (.idleFrame ws) s = .next (goodUinFrame ws s) := by
    have hframe := receiveUin_whole ws s hone huin
    rw [uinFrame, if_pos hgood] at hframe
    exact congrArg Host.Outcome.next hframe
  rw [hexec]
  refine ⟨fun hlink => ⟨_, rfl, ?_⟩, fun hlink => ⟨_, _, rfl, rfl, ?_⟩⟩
  · rw [goodUinFrame_of_up hlink]
    exact handleUin_idle htype _
  · have hother : headerType (ws.headD 0) ≠ typeStageReport := by
      rw [htype]
      decide
    rcases goodUinFrame_of_lost hlink hother with h | h <;> rw [h]
    · exact .inl (handleUin_idle htype _)
    · exact .inr ⟨_, handleUin_idle htype _, rfl⟩

/-- Settles O28: the four rows are one receiver, which passes a failing frame on. -/
theorem failingUinFrameIsPassedOn : Obligations.FailingUinFrameIsPassedOn := by
  unfold Obligations.FailingUinFrameIsPassedOn
  rintro ws s ⟨hone, hbad, huin⟩
  refine ⟨?_, rfl, rfl, rfl⟩
  have hframe := receiveUin_whole ws s hone huin
  rw [uinFrame, hbad, if_neg (by decide), passOn_eq_forwarded] at hframe
  refine (congrArg Host.Outcome.next hframe).trans ?_
  by_cases htype : headerType (ws.headD 0) = typeMeasurement
  · simp only [htype, beq_self_eq_true, setFlagIf, if_true]
    rfl
  · have hne : (headerType (ws.headD 0) == typeMeasurement) = false := beq_false_of_ne htype
    simp only [hne, htype, setFlagIf, Bool.false_eq_true, if_false]

/-! ### Ends of sendings -/

/-- Settles O29: the cases of what is being sent and of what waits. -/
theorem endOfASendingStartsTheNext : Obligations.EndOfASendingStartsTheNext := by
  unfold Obligations.EndOfASendingStartsTheNext
  intro s
  have hdout {d : Dsr} (h : doutEnds s.dsr = d) : exec .doutFrameSent s = .next { s with dsr := d } := by
    rw [← h]
    rfl
  have huout {t : State} (h : uoutEnds s = t) : exec .uoutFrameSent s = .next t := congrArg Host.Outcome.next h
  refine ⟨fun ws hs hl => hdout ?_, fun ws e rest hs hl => hdout ?_, fun ws fwd hs => hdout ?_,
    fun fwd hs hl => hdout ?_, fun fwd e rest hs hl => hdout ?_, fun ws hs hl => huout ?_,
    fun ws w rest hs hl => huout ?_⟩
  · simp only [doutEnds, doutNext, hs, hl]
  · simp only [doutEnds, doutNext, hs, hl]
  · simp only [doutEnds, hs]
  · simp only [doutEnds, doutNext, hs, hl]
  · simp only [doutEnds, doutNext, hs, hl]
  · simp only [uoutEnds, hs, hl]
    rfl
  · simp only [uoutEnds, hs, hl]
    rfl

/-! ### Losses and the cadence -/

theorem faultDetails_raise (c : FaultCause) (n : Notice) (s : State) :
    faultDetails c (raise n s) = faultDetails c s := by
  unfold faultDetails
  rw [(raise_only n s).ant]

theorem faulted_withDsr (c : FaultCause) (d : Dsr) (s : State) :
    faulted c (s.withDsr d) = (faulted c s).withDsr d := by
  unfold faulted
  by_cases h : s.sch.state = .faulted
  · rw [if_pos h, if_pos (show (s.withDsr d).sch.state = .faulted from h)]
    rfl
  · rw [if_neg h, if_neg (show (s.withDsr d).sch.state ≠ .faulted from h)]
    rfl

theorem faulted_withUp (c : FaultCause) (u : Up) (s : State) :
    faulted c (s.withUp u) = (faulted c s).withUp u := by
  unfold faulted
  by_cases h : s.sch.state = .faulted
  · rw [if_pos h, if_pos (show (s.withUp u).sch.state = .faulted from h)]
    rfl
  · rw [if_neg h, if_neg (show (s.withUp u).sch.state ≠ .faulted from h)]
    rfl

/-- Settles O30: LINK notice, safety stop and timer in their order; only the last touches the DSR again. -/
theorem downstreamLossCallsTheSafetyStop : Obligations.DownstreamLossCallsTheSafetyStop := by
  unfold Obligations.DownstreamLossCallsTheSafetyStop
  intro s hlink htimer
  have hdue : downLossDue s = true := by simp [downLossDue, hlink, htimer, runsOut]
  refine ⟨_, rfl, (congrArg Host.Outcome.next (if_pos hdue)).trans (congrArg Host.Outcome.next ?_)⟩
  rw [loseDownstream_eq, safetyStop_eq_faulted, raise_withDsr, faulted_withDsr, raise_withDsr,
    show ({ s with dsr := { s.dsr with link := .lost true, timer := none } } : State) =
      s.withDsr { s.dsr with link := .lost true, timer := none } from rfl, raise_withDsr, faulted_withDsr,
    raise_withDsr]
  have hdetails : faultDetails .linkDown ((raise (.link false false) s).withDsr (downLost s.dsr)) =
      faultDetails .linkDown s := faultDetails_raise _ _ s
  rw [hdetails]
  rfl

theorem exec_upstreamLinkLoss {s : State} (hlink : s.up.link = .up) (htimer : s.up.timer = some 1) :
    exec .upstreamLinkLoss s = .next (loseUpstream s) := by
  have hdue : upLossDue s = true := by simp [upLossDue, hlink, htimer, runsOut]
  exact congrArg Host.Outcome.next (if_pos hdue)

/-- The fault of an upstream loss under FOLDBACK and SAFE. -/
theorem upstreamFault_of_action {s : State} (h : s.par.tripAction ≠ .notify) :
    upstreamFault s = safetyStop .linkUpLost s := by
  unfold upstreamFault
  split
  · next hn => exact absurd hn h
  · rfl
  · rfl

/-- Settles O31: under NOTIFY the notice and the timer, otherwise the safety stop between them. -/
theorem upstreamLossFollowsTheTripAction : Obligations.UpstreamLossFollowsTheTripAction := by
  unfold Obligations.UpstreamLossFollowsTheTripAction
  intro s hlink htimer
  have hpar : (raise (.link true false) s).par = s.par := (raise_only _ s).par
  rw [exec_upstreamLinkLoss hlink htimer, loseUpstream_eq, raise_withUp, upstreamFault_withUp]
  constructor
  · intro haction
    have hnone : upstreamFault (raise (.link true false) s) = raise (.link true false) s := by
      rw [upstreamFault, hpar, haction]
    rw [hnone]
    rfl
  · intro haction
    refine ⟨_, rfl, congrArg Host.Outcome.next ?_⟩
    rw [upstreamFault_of_action (by rwa [hpar]), safetyStop_eq_faulted, faultDetails_raise,
      show ({ s with up := { s.up with link := .lost true, timer := none } } : State) =
        s.withUp { s.up with link := .lost true, timer := none } from rfl, raise_withUp, faulted_withUp,
      raise_withUp]
    rfl

/-- Settles O32: the cadence with and without a report that may leave, and the row of the held response. -/
theorem cadenceAndFreedPlaceMoveTheReports : Obligations.CadenceAndFreedPlaceMoveTheReports := by
  unfold Obligations.CadenceAndFreedPlaceMoveTheReports
  intro s
  refine ⟨fun hlink htimer => ?_, fun r hheld => ?_⟩
  · have hdue : cadenceDue s = true := by simp [cadenceDue, hlink, htimer, runsOut]
    have hexec : exec .upstreamCadenceExpiry s = .next (cadenceExpires s) :=
      congrArg Host.Outcome.next (if_pos hdue)
    rw [hexec]
    refine ⟨fun hstays => ?_, fun r rest hqueue hempty => ⟨_, rfl, ?_⟩⟩
    · have hnot : ¬reportMayLeave (s.withUp { s.up with cadence := some Config.cadenceTicks }) = true := by
        rcases hstays with h | h <;> simp [reportMayLeave, h]
      exact congrArg Host.Outcome.next (if_neg hnot)
    · have hleaves : reportMayLeave (s.withUp { s.up with cadence := some Config.cadenceTicks }) = true := by
        simp [reportMayLeave, hqueue, hempty]
      unfold cadenceExpires
      dsimp only
      rw [if_pos hleaves, sendHeadReport, State.withUp_rpq, hqueue]
      dsimp only
      rw [sendUp_eq_placed]
      exact placeFreed_spec _
  · have hexec : exec .heldResponsePlaced s = .next (placeHeld s) := rfl
    rw [hexec, placeHeld_holding r s hheld]
    exact ⟨fun hroom => by rw [if_pos hroom], fun hfull => by rw [if_neg (Nat.not_lt.2 hfull)]⟩

end Sys2Proof.LinkRows

namespace Sys2Proof.FlagsAndWatch

open Sys2Proof.Machine Sys2Proof.Safety Sys2Proof.EventDescriptors Sys2Proof.OutputLimits
open Sys2Proof.StepInvariants Sys2Proof.LinkRows

/-! ### Sticky flags -/

theorem flagBit_lt (f : Flag) : flagBit f < 23 := by
  cases f with
  | clip p => cases p <;> decide
  | slew p => cases p <;> decide
  | trip p => cases p <;> decide
  | _ => decide

/-- The flag of a bit, so that no two flags share one. -/
def flagOfBit (n : Nat) : Flag :=
  match n with
  | 0 => .clip .a
  | 1 => .clip .b
  | 2 => .clip .c
  | 3 => .slew .a
  | 4 => .slew .b
  | 5 => .slew .c
  | 6 => .gainSat
  | 7 => .sumSat
  | 8 => .sampleCheck
  | 9 => .measCheck
  | 10 => .seqGap
  | 11 => .angleReverse
  | 12 => .startLate
  | 13 => .cmdCheck
  | 14 => .cmdOverrun
  | 15 => .fwdOverrun
  | 16 => .noticeLost
  | 17 => .protect
  | 18 => .armSkipped
  | 19 => .syncIgnored
  | 20 => .trip .a
  | 21 => .trip .b
  | _ => .trip .c

theorem flagOfBit_flagBit (f : Flag) : flagOfBit (flagBit f) = f := by
  cases f with
  | clip p => cases p <;> rfl
  | slew p => cases p <;> rfl
  | trip p => cases p <;> rfl
  | _ => rfl

/-- What a flag reads after one flag has been set. -/
theorem flagIsSet_flagsWith (flags : BitVec 23) (f g : Flag) :
    flagIsSet (flagsWith flags g) f = (flagIsSet flags f || decide (f = g)) := by
  have hmask : (flagMask g).getLsbD (flagBit f) = decide (f = g) := by
    rw [flagMask, BitVec.getLsbD_ofNat, Nat.testBit_two_pow]
    have hinj : flagBit g = flagBit f ↔ f = g := by
      constructor
      · intro h
        rw [← flagOfBit_flagBit f, ← h, flagOfBit_flagBit]
      · rintro rfl
        rfl
    simp only [flagBit_lt, decide_true, Bool.true_and, decide_eq_decide]
    exact hinj
  rw [flagIsSet, flagsWith, BitVec.getLsbD_or, hmask, flagIsSet]

theorem flagIsSet_flagsWith_other (flags : BitVec 23) {f g : Flag} (h : f ≠ g) :
    flagIsSet (flagsWith flags g) f = flagIsSet flags f := by
  rw [flagIsSet_flagsWith, decide_eq_false h, Bool.or_false]

/-- Set flags stay set, and flags outside `F` stand as they are. -/
structure SetsOnly (F : Flag → Prop) (s t : State) : Prop where
  stand : ∀ f, flagIsSet s.flags f = true → flagIsSet t.flags f = true
  other : ∀ f, ¬F f → flagIsSet t.flags f = flagIsSet s.flags f

namespace SetsOnly

variable {F : Flag → Prop}

theorem of_eq {s t : State} (h : t.flags = s.flags) : SetsOnly F s t :=
  ⟨fun f hf => by rwa [h], fun f _ => by rw [h]⟩

theorem refl (s : State) : SetsOnly F s s := of_eq rfl

theorem trans {s t u : State} (h : SetsOnly F s t) (k : SetsOnly F t u) : SetsOnly F s u :=
  ⟨fun f hf => k.stand f (h.stand f hf), fun f hf => (k.other f hf).trans (h.other f hf)⟩

/-- A part of an operation, after one that sets no flag. -/
theorem since {s t u : State} (k : SetsOnly F t u) (h : t.flags = s.flags) : SetsOnly F s u := (of_eq h).trans k

theorem mono {G : Flag → Prop} {s t : State} (hFG : ∀ f, F f → G f) (h : SetsOnly F s t) : SetsOnly G s t :=
  ⟨h.stand, fun f hf => h.other f (fun hF => hf (hFG f hF))⟩

theorem flagsWith {s t : State} {g : Flag} (hg : F g) (h : t.flags = Machine.flagsWith s.flags g) :
    SetsOnly F s t := by
  refine ⟨fun f hf => ?_, fun f hf => ?_⟩
  · rw [h]
    exact flagIsSet_flagsWith_of_set s.flags f g hf
  · rw [h]
    exact flagIsSet_flagsWith_other s.flags (fun hfg => hf (hfg ▸ hg))

theorem setFlag {g : Flag} (hg : F g) (s : State) : SetsOnly F s (setFlag g s) := flagsWith hg rfl

theorem setFlagIf {c : Bool} {g : Flag} (hg : c = true → F g) (s : State) : SetsOnly F s (setFlagIf c g s) := by
  unfold Machine.setFlagIf
  split
  · next hc => exact setFlag (hg hc) s
  · exact refl s

/-- A notice sets NOTICE_LOST alone. -/
theorem raise (hF : F .noticeLost) (n : Notice) (s : State) : SetsOnly F s (raise n s) := by
  unfold Machine.raise
  split
  · split
    · exact of_eq rfl
    · exact flagsWith hF rfl
  · exact refl s

theorem notice (n : Notice) (s : State) : SetsOnly (fun f => f = .noticeLost) s (Machine.raise n s) :=
  raise (F := fun f => f = .noticeLost) rfl n s

theorem raiseIf (hF : F .noticeLost) (c : Bool) (n : Notice) (s : State) : SetsOnly F s (raiseIf c n s) := by
  unfold Machine.raiseIf
  split
  · exact raise hF n s
  · exact refl s

theorem firedOne (hF : F .noticeLost) (k : Nat) (s : State) : SetsOnly F s (firedOne k s) := by
  unfold Safety.firedOne
  dsimp only
  have hstop (t u : State) (c : Prop) [Decidable c] (ht : t.flags = s.flags) (hu : u.flags = s.flags) :
      (if c then t else u).flags = s.flags := by
    split
    · exact ht
    · exact hu
  split
  · refine trans (of_eq ?_) (raise hF _ _)
    exact hstop _ _ _ rfl rfl
  · exact of_eq (hstop _ _ _ rfl rfl)

theorem fireIfHit (hF : F .noticeLost) (hit : MarkerCond → Bool) (k : Nat) (s : State) :
    SetsOnly F s (fireIfHit hit k s) := by
  unfold Machine.fireIfHit
  split
  · rw [fire_eq_firedOne]
    exact firedOne hF k s
  · exact refl s

theorem fireMarkers (hF : F .noticeLost) (hit : MarkerCond → Bool) (s : State) :
    SetsOnly F s (fireMarkers hit s) :=
  (fireIfHit hF hit 0 s).trans <| (fireIfHit hF hit 1 _).trans <| (fireIfHit hF hit 2 _).trans
    (fireIfHit hF hit 3 _)

end SetsOnly

/-! ### One phase of the Current Watch -/

/-- A phase with a new over count, by its fields. -/
theorem withOvers_eq {c : CwPhase} {b : Bool} (n : Nat) (h : c.tripped = b) :
    { c with overs := n } = ({ overs := n, tripped := b, fold := c.fold } : CwPhase) := by
  rw [← h]

theorem trippedStep_eq {p : Phase} {above : Bool} {s : State} (htripped : (s.cw.get p).tripped = true) :
    trippedStep p above (countOver p above s) =
      if s.par.tripAction = .foldback ∧ (watched above s.par (s.cw.get p)).tripped = false then
        raise (.foldbackEnd p) { s with cw := s.cw.set p (watched above s.par (s.cw.get p)) }
      else { s with cw := s.cw.set p (watched above s.par (s.cw.get p)) } := by
  have hcount : countOver p above s =
      { s with cw := s.cw.set p { s.cw.get p with overs := countAfter above (s.cw.get p).overs } } := by
    rw [countOver, overAfter_eq_countAfter]
    rfl
  have hwatch (c : CwPhase) : setWatch p c (countOver p above s) = { s with cw := s.cw.set p c } := by
    rw [hcount]
    exact congrArg s.withCw (set_set _ _ _ _)
  have hget : (countOver p above s).cw.get p =
      { s.cw.get p with overs := countAfter above (s.cw.get p).overs } := by
    rw [hcount]
    exact (get_set _ _ _ _).trans (if_pos rfl)
  have hup (n m : Nat) : foldUp n m = if n + m ≤ 16384 then n + m else 16384 := by
    unfold foldUp Config.unity
    split <;> omega
  unfold trippedStep watched
  rw [if_pos htripped]
  have hpar : (countOver p above s).par = s.par := rfl
  cases haction : s.par.tripAction with
  | notify =>
    rw [hpar, haction]
    cases above with
    | true =>
      simp only [reduceCtorEq, false_and, if_false, if_true]
      rw [hcount, withOvers_eq _ htripped]
    | false =>
      simp only [reduceCtorEq, false_and, if_false, Bool.false_eq_true]
      rw [hwatch, hget]
  | safe =>
    rw [hpar, haction]
    simp only [reduceCtorEq, false_and, if_false]
    exact hcount
  | foldback =>
    rw [hpar, haction]
    simp only [true_and, foldPhase, hget, hwatch, hpar, foldDown_eq_stepDown, hup]
    cases above with
    | true => simp only [if_true, htripped, Bool.true_eq_false, if_false]
    | false =>
      simp only [Bool.false_eq_true, if_false]
      by_cases hfull : stepUp s.par (s.cw.get p).fold = 16384
      · have hfull' := hfull
        unfold stepUp at hfull'
        simp only [hfull, hfull', Config.unity, ne_eq, not_true_eq_false, decide_false, if_true]
      · have hfull' := hfull
        unfold stepUp at hfull'
        simp only [hfull, hfull', Config.unity, ne_eq, not_false_eq_true, decide_true, if_false,
          Bool.true_eq_false, htripped]
        rfl

/-- The mark of a phase that trips, with its count. -/
def tripMarked (p : Phase) (above : Bool) (s : State) : State :=
  { s with
    cw := s.cw.set p { s.cw.get p with overs := countAfter above (s.cw.get p).overs, tripped := true }
    flags := flagsWith s.flags (.trip p) }

theorem tripPhase_countOver {p : Phase} {above : Bool} {s : State} (hnormal : (s.cw.get p).tripped = false)
    (hcount : s.par.tripQual ≤ countAfter above (s.cw.get p).overs) :
    tripPhase p (countOver p above s) =
      if s.par.tripAction = .safe then
        raise (.fault (faultDetails (.trip p) s))
          (faulted (.trip p) (fired .trip (raise (.trip p s.par.tripAction) (tripMarked p above s))))
      else
        { fired .trip (raise (.trip p s.par.tripAction) (tripMarked p above s)) with
          cw := s.cw.set p (watched above s.par (s.cw.get p)) } := by
  have hmark : setFlag (.trip p)
      (setWatch p { (countOver p above s).cw.get p with tripped := true } (countOver p above s)) =
        tripMarked p above s := by
    simp only [setFlag, setWatch, countOver, State.withCw_cw, State.withCw_withCw, State.withCw_flags, get_set,
      set_set, if_true, overAfter_eq_countAfter]
    rfl
  have htrip : tripPhase p (countOver p above s) =
      tripActionBegins p (fired .trip (raise (.trip p s.par.tripAction) (tripMarked p above s))) := by
    rw [← fireMarkers_eq_fired .trip hitTrip (fun _ => rfl), ← hmark]
    rfl
  have hsame : SameLimits (tripMarked p above s)
      (fired .trip (raise (.trip p s.par.tripAction) (tripMarked p above s))) := by
    rw [← fireMarkers_eq_fired .trip hitTrip (fun _ => rfl)]
    exact (raise_sameLimits _ _).trans (fireMarkers_sameLimits _ _)
  have hant : (fired .trip (raise (.trip p s.par.tripAction) (tripMarked p above s))).ant = s.ant := by
    rw [← fireMarkers_eq_fired .trip hitTrip (fun _ => rfl)]
    exact (fireMarkers_only _ _).ant.trans (raise_only _ _).ant
  rw [htrip]
  generalize fired .trip (raise (.trip p s.par.tripAction) (tripMarked p above s)) = v at hsame hant
  have hpar : v.par = s.par := hsame.par
  have hcw : v.cw = (tripMarked p above s).cw := hsame.cw
  split
  · next hsafe =>
    rw [tripActionBegins_of_safe p (by rw [hpar]; exact hsafe)]
    unfold faultDetails
    rw [hant]
  · next hother =>
    rw [tripActionBegins_of_not_safe p (by rw [hpar]; exact hother), tripActionBegins_cw, hpar, hcw, watched,
      hnormal]
    simp only [Bool.false_eq_true, if_false, hcount, if_true, tripMarked, get_set, set_set]
    cases haction : s.par.tripAction <;> simp_all

/-- One phase's share of a good MEASUREMENT frame, as the statement of the Current Watch gives it. -/
theorem watchPhase_eq_phaseWatched (p : Phase) (i : Int) (s : State) : watchPhase p i s = phaseWatched p i s := by
  have hover : isOver i (s.par.ilim.get p) = decide (s.par.ilim.get p < i.natAbs) := rfl
  unfold watchPhase phaseWatched
  rw [hover]
  generalize decide (s.par.ilim.get p < i.natAbs) = above
  dsimp only
  have hget : ((countOver p above s).cw.get p).overs = countAfter above (s.cw.get p).overs := by
    rw [countOver, overAfter_eq_countAfter]
    exact congrArg CwPhase.overs ((get_set _ _ _ _).trans (if_pos rfl))
  cases htripped : (s.cw.get p).tripped with
  | true =>
    simp only [if_true, trips, htripped, Bool.not_true, Bool.false_and, Bool.false_eq_true, if_false, true_and]
    exact trippedStep_eq htripped
  | false =>
    simp only [Bool.false_eq_true, if_false, trips, htripped, Bool.not_false, Bool.true_and, decide_eq_true_eq,
      hget, false_and]
    by_cases hcount : s.par.tripQual ≤ countAfter above (s.cw.get p).overs
    · rw [if_pos hcount, if_pos hcount, tripPhase_countOver htripped hcount]
      rfl
    · rw [if_neg hcount, if_neg hcount, countOver, overAfter_eq_countAfter, watched, htripped]
      simp only [Bool.false_eq_true, if_false, hcount]
      rw [setWatch, withOvers_eq _ htripped]
      rfl

theorem watchFrame_eq_phasesWatched (i : PerPhase Int) (s : State) :
    watchFrame i s = phasesWatched i.a i.b i.c s := by
  unfold watchFrame phasesWatched
  simp only [watchPhase_eq_phaseWatched]

/-! ### A whole good MEASUREMENT frame -/

/-- Two ways an operation can take, each of which does not meet the upstream merge. -/
theorem ite_withUp {c : Prop} [Decidable c] {u : Up} {s t s' t' : State} (hs : s' = s.withUp u)
    (ht : t' = t.withUp u) : (if c then s' else t') = (if c then s else t).withUp u := by
  split
  · exact hs
  · exact ht

theorem raiseIf_withUp (c : Bool) (n : Notice) (u : Up) (s : State) :
    raiseIf c n (s.withUp u) = (raiseIf c n s).withUp u :=
  ite_withUp (raise_withUp n u s) rfl

theorem stopNow_withUp (u : Up) (s : State) : stopNow (s.withUp u) = (stopNow s).withUp u := by
  unfold stopNow
  rw [State.withUp_sch]
  split <;> rfl

/-- The firing of a marker and the upstream merge do not meet. -/
theorem fire_withUp (k : Nat) (u : Up) (s : State) : fire k (s.withUp u) = (fire k s).withUp u := by
  have hpulse (c : Bool) (w : Nat) (t : State) :
      (if c = true then requestPulse w (t.withUp u) else t.withUp u) =
        (if c = true then requestPulse w t else t).withUp u := ite_withUp rfl rfl
  have hstop (c : Bool) (t : State) :
      (if c = true then stopNow (t.withUp u) else t.withUp u) =
        (if c = true then stopNow t else t).withUp u := ite_withUp (stopNow_withUp u t) rfl
  unfold fire
  dsimp only [State.withUp_mku]
  rw [hpulse, hstop, raiseIf_withUp]
  rfl

theorem fireIfHit_withUp (hit : MarkerCond → Bool) (k : Nat) (u : Up) (s : State) :
    fireIfHit hit k (s.withUp u) = (fireIfHit hit k s).withUp u :=
  ite_withUp (fire_withUp k u s) rfl

theorem fireMarkers_withUp (hit : MarkerCond → Bool) (u : Up) (s : State) :
    fireMarkers hit (s.withUp u) = (fireMarkers hit s).withUp u := by
  simp only [fireMarkers, fireIfHit_withUp]

theorem foldPhase_withUp (p : Phase) (above : Bool) (u : Up) (s : State) :
    foldPhase p above (s.withUp u) = (foldPhase p above s).withUp u :=
  ite_withUp rfl (ite_withUp
    (raise_withUp (.foldbackEnd p) u (setWatch p { s.cw.get p with fold := Config.unity, tripped := false } s)) rfl)

theorem tripActionBegins_withUp (p : Phase) (u : Up) (s : State) :
    tripActionBegins p (s.withUp u) = (tripActionBegins p s).withUp u := by
  unfold tripActionBegins
  rw [State.withUp_par]
  split
  · rfl
  · exact foldPhase_withUp p true u s
  · exact safetyStop_withUp _ u s

theorem tripPhase_withUp (p : Phase) (u : Up) (s : State) :
    tripPhase p (s.withUp u) = (tripPhase p s).withUp u := by
  have hfired := fireMarkers_withUp hitTrip u
    (raise (.trip p s.par.tripAction) (setFlag (.trip p) (setWatch p { s.cw.get p with tripped := true } s)))
  rw [← raise_withUp] at hfired
  exact (congrArg (tripActionBegins p) hfired).trans (tripActionBegins_withUp p u _)

theorem trippedStep_withUp (p : Phase) (above : Bool) (u : Up) (s : State) :
    trippedStep p above (s.withUp u) = (trippedStep p above s).withUp u := by
  unfold trippedStep
  rw [State.withUp_par]
  split
  · exact ite_withUp rfl rfl
  · exact foldPhase_withUp p above u s
  · rfl

theorem watchPhase_withUp (p : Phase) (i : Int) (u : Up) (s : State) :
    watchPhase p i (s.withUp u) = (watchPhase p i s).withUp u :=
  ite_withUp (trippedStep_withUp p _ u (countOver p _ s)) (ite_withUp (tripPhase_withUp p u (countOver p _ s)) rfl)

/-- The Current Watch and the upstream merge do not meet. -/
theorem phasesWatched_withUp (ia ib ic : Int) (u : Up) (s : State) :
    phasesWatched ia ib ic (s.withUp u) = (phasesWatched ia ib ic s).withUp u := by
  unfold phasesWatched
  simp only [← watchPhase_eq_phaseWatched, watchPhase_withUp]

/-- The current of the phase is over its limit. -/
def aboveOf (i : PerPhase Int) (s : State) (p : Phase) : Bool := decide (s.par.ilim.get p < (i.get p).natAbs)

/-- What one phase's share leaves of M, of the previous outputs and of the flags, and its own phase. -/
structure PhaseFacts (p : Phase) (above : Bool) (s t : State) : Prop where
  cw : t.cw = s.cw.set p (watched above s.par (s.cw.get p))
  factor : t.lmu.factor = s.lmu.factor
  yPrev : t.lmu.yPrev = s.lmu.yPrev
  flags : SetsOnly (fun f => f = .noticeLost ∨ (f = .trip p ∧ trips above s.par (s.cw.get p) = true)) s t
  trip : trips above s.par (s.cw.get p) = true → flagIsSet t.flags (.trip p) = true

theorem phaseFacts_trip {p : Phase} {above : Bool} {s : State}
    (htrips : trips above s.par (s.cw.get p) = true) :
    PhaseFacts p above s (tripPhase p (countOver p above s)) := by
  have hsplit := htrips
  simp only [trips, Bool.and_eq_true, Bool.not_eq_true', decide_eq_true_eq] at hsplit
  obtain ⟨hnormal, hcount⟩ := hsplit
  have hflags : SetsOnly (fun f => f = .noticeLost ∨ (f = .trip p ∧ trips above s.par (s.cw.get p) = true)) s
      (fired .trip (raise (.trip p s.par.tripAction) (tripMarked p above s))) := by
    have hmark : SetsOnly (fun f => f = .noticeLost ∨ (f = .trip p ∧ trips above s.par (s.cw.get p) = true)) s
        (tripMarked p above s) := SetsOnly.flagsWith (.inr ⟨rfl, htrips⟩) rfl
    rw [← fireMarkers_eq_fired .trip hitTrip (fun _ => rfl)]
    exact (hmark.trans (SetsOnly.raise (.inl rfl) _ _)).trans (SetsOnly.fireMarkers (.inl rfl) _ _)
  have hset : flagIsSet (fired .trip (raise (.trip p s.par.tripAction) (tripMarked p above s))).flags (.trip p) =
      true := by
    rw [← fireMarkers_eq_fired .trip hitTrip (fun _ => rfl)]
    exact ((FaultAndFlagsStand.raise _ _).trans (FaultAndFlagsStand.fireMarkers _ _)).flags (.trip p)
      (flagIsSet_flagsWith_self s.flags (.trip p))
  have hsame : SameLimits (tripMarked p above s)
      (fired .trip (raise (.trip p s.par.tripAction) (tripMarked p above s))) := by
    rw [← fireMarkers_eq_fired .trip hitTrip (fun _ => rfl)]
    exact (raise_sameLimits _ _).trans (fireMarkers_sameLimits _ _)
  have hlmu : (fired .trip (raise (.trip p s.par.tripAction) (tripMarked p above s))).lmu = s.lmu := hsame.lmu
  have hcw : (fired .trip (raise (.trip p s.par.tripAction) (tripMarked p above s))).cw =
      (tripMarked p above s).cw := hsame.cw
  rw [tripPhase_countOver hnormal hcount]
  generalize fired .trip (raise (.trip p s.par.tripAction) (tripMarked p above s)) = v at *
  split
  · next hsafe =>
    obtain ⟨-, -, -, hfactor, hprev, hstop⟩ := faulted_spec (.trip p) v
    have hraise := raise_only (.fault (faultDetails (.trip p) s)) (faulted (.trip p) v)
    have hstopCw : (faulted (.trip p) v).cw = v.cw := by
      unfold faulted
      split <;> rfl
    refine ⟨?_, by rw [hraise.lmu, hfactor, hlmu], by rw [hraise.lmu, hprev, hlmu], ?_, fun _ => ?_⟩
    · rw [hraise.cw, hstopCw, hcw, watched, hnormal]
      simp only [Bool.false_eq_true, if_false, hcount, if_true, hsafe, tripMarked]
    · exact (hflags.trans (SetsOnly.of_eq hstop)).trans (SetsOnly.raise (.inl rfl) _ _)
    · rw [← hstop] at hset
      exact (FaultAndFlagsStand.raise _ _).flags _ hset
  · exact ⟨rfl, congrArg Lmu.factor hlmu, congrArg Lmu.yPrev hlmu, hflags.trans (SetsOnly.of_eq rfl),
      fun _ => hset⟩

theorem phaseFacts (p : Phase) (i : PerPhase Int) (s : State) :
    PhaseFacts p (aboveOf i s p) s (phaseWatched p (i.get p) s) := by
  have hquiet {above : Bool} {t : State} (hno : trips above s.par (s.cw.get p) ≠ true)
      (hcw : t.cw = s.cw.set p (watched above s.par (s.cw.get p))) (hlmu : t.lmu = s.lmu)
      (hflags : SetsOnly (· = .noticeLost) s t) : PhaseFacts p above s t :=
    ⟨hcw, congrArg Lmu.factor hlmu, congrArg Lmu.yPrev hlmu, hflags.mono (fun _ => Or.inl),
      fun h => absurd h hno⟩
  by_cases htrips : trips (aboveOf i s p) s.par (s.cw.get p) = true
  · have hsplit := htrips
    simp only [trips, Bool.and_eq_true, Bool.not_eq_true', decide_eq_true_eq] at hsplit
    obtain ⟨hnormal, hcount⟩ := hsplit
    have hfacts := phaseFacts_trip htrips
    rw [tripPhase_countOver hnormal hcount] at hfacts
    unfold phaseWatched
    dsimp only
    rw [show decide (s.par.ilim.get p < (i.get p).natAbs) = aboveOf i s p from rfl, if_pos htrips]
    exact hfacts
  · unfold phaseWatched
    dsimp only
    rw [show decide (s.par.ilim.get p < (i.get p).natAbs) = aboveOf i s p from rfl, if_neg htrips]
    split
    · have hraise := raise_only (.foldbackEnd p)
        { s with cw := s.cw.set p (watched (aboveOf i s p) s.par (s.cw.get p)) }
      exact hquiet htrips hraise.cw hraise.lmu
        ((SetsOnly.notice (.foldbackEnd p)
          { s with cw := s.cw.set p (watched (aboveOf i s p) s.par (s.cw.get p)) }).since rfl)
    · exact hquiet htrips rfl rfl (SetsOnly.of_eq rfl)

/-- What a MEASUREMENT frame leaves of the block: of the state `s` before it, `x` is what is left but for the
upstream merge, reports, events of trips and the free-choice counter. -/
structure Measured (i : PerPhase Int) (s x : State) : Prop where
  cw : ∀ p, x.cw.get p = watched (aboveOf i s p) s.par (s.cw.get p)
  flag : ∀ p, flagIsSet x.flags (.trip p) = true ↔
    flagIsSet s.flags (.trip p) = true ∨ trips (aboveOf i s p) s.par (s.cw.get p) = true
  ant : x.ant = s.ant
  edt : x.edt = s.edt
  ring : x.ring = s.ring
  sau : x.sau = s.sau
  dsr : x.dsr = s.dsr
  cmx : x.cmx = s.cmx
  par : x.par = s.par
  factor : x.lmu.factor = s.lmu.factor
  yPrev : x.lmu.yPrev = s.lmu.yPrev
  pending : x.pending = s.pending

theorem phasesWatched_measured (i : PerPhase Int) (s : State) : Measured i s (phasesWatched i.a i.b i.c s) := by
  have hA := phaseFacts .a i s
  have hsA : StopOnly s (phaseWatched .a i.a s) := by
    rw [← watchPhase_eq_phaseWatched]
    exact watchPhase_only _ _ _
  unfold phasesWatched
  generalize htA : phaseWatched .a i.a s = tA at hsA
  rw [show phaseWatched .a (i.get .a) s = tA from htA] at hA
  have hB := phaseFacts .b i tA
  have hsB : StopOnly tA (phaseWatched .b i.b tA) := by
    rw [← watchPhase_eq_phaseWatched]
    exact watchPhase_only _ _ _
  generalize htB : phaseWatched .b i.b tA = tB at hsB
  rw [show phaseWatched .b (i.get .b) tA = tB from htB] at hB
  have hC := phaseFacts .c i tB
  have hsC : StopOnly tB (phaseWatched .c i.c tB) := by
    rw [← watchPhase_eq_phaseWatched]
    exact watchPhase_only _ _ _
  generalize htC : phaseWatched .c i.c tB = tC at hsC
  rw [show phaseWatched .c (i.get .c) tB = tC from htC] at hC
  have hparA : tA.par = s.par := hsA.par
  have hparB : tB.par = s.par := hsB.par.trans hparA
  have hcwB : tA.cw.get .b = s.cw.get .b := by rw [hA.cw]; rfl
  have hcwC : tB.cw.get .c = s.cw.get .c := by rw [hB.cw, hA.cw]; rfl
  have haboveB : aboveOf i tA .b = aboveOf i s .b := by rw [aboveOf, hparA]; rfl
  have haboveC : aboveOf i tB .c = aboveOf i s .c := by rw [aboveOf, hparB]; rfl
  rw [haboveB] at hB
  rw [haboveC] at hC
  have hsetB := hB.flags
  have hsetC := hC.flags
  have htripB := hB.trip
  have htripC := hC.trip
  rw [hparA, hcwB] at hsetB htripB
  rw [hparB, hcwC] at hsetC htripC
  have hstop := (hsA.trans hsB).trans hsC
  refine ⟨fun p => ?_, fun p => ?_, hstop.ant, hstop.edt, hstop.ring, hstop.sau, hstop.dsr, hstop.cmx, hstop.par,
    (hC.factor.trans hB.factor).trans hA.factor, (hC.yPrev.trans hB.yPrev).trans hA.yPrev, hstop.pending⟩
  · rw [hC.cw, hB.cw, hA.cw, hparA, hparB]
    cases p <;> rfl
  · have hstand : flagIsSet s.flags (.trip p) = true → flagIsSet tC.flags (.trip p) = true :=
      fun h => hsetC.stand _ (hsetB.stand _ (hA.flags.stand _ h))
    cases p with
    | a =>
      rw [hsetC.other _ (by simp), hsetB.other _ (by simp)]
      constructor
      · intro h
        by_cases ht : trips (aboveOf i s .a) s.par (s.cw.get .a) = true
        · exact .inr ht
        · rw [hA.flags.other _ (by simp [ht])] at h
          exact .inl h
      · rintro (h | h)
        · exact hA.flags.stand _ h
        · exact hA.trip h
    | b =>
      rw [hsetC.other _ (by simp)]
      constructor
      · intro h
        by_cases ht : trips (aboveOf i s .b) s.par (s.cw.get .b) = true
        · exact .inr ht
        · rw [hsetB.other _ (by simp [ht]), hA.flags.other _ (by simp)] at h
          exact .inl h
      · rintro (h | h)
        · exact hsetB.stand _ (hA.flags.stand _ h)
        · exact htripB h
    | c =>
      constructor
      · intro h
        by_cases ht : trips (aboveOf i s .c) s.par (s.cw.get .c) = true
        · exact .inr ht
        · rw [hsetC.other _ (by simp [ht]), hsetB.other _ (by simp), hA.flags.other _ (by simp)] at h
          exact .inl h
      · rintro (h | h)
        · exact hstand h
        · exact htripC h

/-- Notices before and after the Current Watch's share, and free choices, reach none of that. -/
theorem Measured.around {i : PerPhase Int} {s u x y : State} (hbefore : ReportsOnly s u)
    (hfu : SetsOnly (· = .noticeLost) s u) (hafter : ReportsOnly x y) (hfy : SetsOnly (· = .noticeLost) x y)
    (h : Measured i u x) : Measured i s y := by
  have habove (p : Phase) : aboveOf i u p = aboveOf i s p := by rw [aboveOf, hbefore.par]; rfl
  refine ⟨fun p => ?_, fun p => ?_, hafter.ant.trans (h.ant.trans hbefore.ant),
    hafter.edt.trans (h.edt.trans hbefore.edt), hafter.ring.trans (h.ring.trans hbefore.ring),
    hafter.sau.trans (h.sau.trans hbefore.sau), hafter.dsr.trans (h.dsr.trans hbefore.dsr),
    hafter.cmx.trans (h.cmx.trans hbefore.cmx), hafter.par.trans (h.par.trans hbefore.par),
    (congrArg Lmu.factor hafter.lmu).trans (h.factor.trans (congrArg Lmu.factor hbefore.lmu)),
    (congrArg Lmu.yPrev hafter.lmu).trans (h.yPrev.trans (congrArg Lmu.yPrev hbefore.lmu)),
    hafter.pending.trans (h.pending.trans hbefore.pending)⟩
  · have hcw := h.cw p
    rwa [habove, hbefore.par, hbefore.cw, ← hafter.cw] at hcw
  · have hflag := h.flag p
    rwa [habove, hbefore.par, hbefore.cw, hfu.other _ (by simp), ← hfy.other _ (by simp)] at hflag

theorem handleUin_measurement {ws : List Word} (htype : headerType (ws.headD 0) = typeMeasurement) (v : State) :
    handleUin ws (v.withUp (alive v.up)) =
      { watchFrame (readCurrents ws) v with up := forwarded ws (alive v.up) } := by
  rw [handleUin, if_pos htype, passOn_eq_forwarded, watchFrame_eq_phasesWatched, phasesWatched_withUp,
    ← watchFrame_eq_phasesWatched]
  rfl

theorem watchFrame_measured (i : PerPhase Int) (s : State) : Measured i s (watchFrame i s) := by
  rw [watchFrame_eq_phasesWatched]
  exact phasesWatched_measured i s

/-- The Current Watch's share of the frame, with the LINK notice of a recovery on either side of it. -/
theorem goodUinFrame_measurement {ws : List Word} (s : State) (htype : headerType (ws.headD 0) = typeMeasurement) :
    ∃ x, Measured (readCurrents ws) s x ∧ goodUinFrame ws s = { x with up := forwarded ws (alive s.up) } ∧
      (s.up.link ≠ .lost true → x = watchFrame (readCurrents ws) s) ∧
      (s.up.link = .lost true → ∃ u, u = { s with freeCount := s.freeCount + 1 } ∧
        (x = watchFrame (readCurrents ws) (raise (.link true true) u) ∨
          x = raise (.link true true) (watchFrame (readCurrents ws) u))) := by
  by_cases hlink : s.up.link = .lost true
  · have hother : headerType (ws.headD 0) ≠ typeStageReport := by
      rw [htype]
      decide
    have hfree : ReportsOnly s { s with freeCount := s.freeCount + 1 } := by constructor <;> rfl
    rcases goodUinFrame_of_lost hlink hother with hgoal | hgoal
    · have hraise := raise_only (.link true true) { s with freeCount := s.freeCount + 1 }
      have hup : (raise (.link true true) { s with freeCount := s.freeCount + 1 }).up = s.up := hraise.up
      have hhandle := handleUin_measurement htype (raise (.link true true) { s with freeCount := s.freeCount + 1 })
      rw [hup, ← raise_withUp] at hhandle
      exact ⟨_, (watchFrame_measured _ _).around (hfree.trans hraise) ((SetsOnly.notice (.link true true)
        { s with freeCount := s.freeCount + 1 }).since rfl) (.refl _) (.refl _), hgoal.trans hhandle,
        fun h => absurd hlink h, fun _ => ⟨_, rfl, .inl rfl⟩⟩
    · have hhandle := handleUin_measurement htype { s with freeCount := s.freeCount + 1 }
      exact ⟨_, (watchFrame_measured _ _).around hfree (SetsOnly.of_eq rfl) (raise_only (.link true true) _)
        (SetsOnly.notice _ _), (hgoal.trans (congrArg (raise (.link true true)) hhandle)).trans (raise_withUp _ _ _),
        fun h => absurd hlink h, fun _ => ⟨_, rfl, .inr rfl⟩⟩
  · exact ⟨_, watchFrame_measured _ _, (goodUinFrame_of_up hlink).trans (handleUin_measurement htype s),
      fun _ => rfl, fun h => absurd h hlink⟩

/-- Settles O25: the Current Watch's share, with the LINK notice of a recovery on either side of it, and then the
frame on its way to UOUT. -/
theorem measurementFrameUpdatesTheCurrentWatch : Obligations.MeasurementFrameUpdatesTheCurrentWatch := by
  unfold Obligations.MeasurementFrameUpdatesTheCurrentWatch
  rintro ws s ⟨hone, hgood, htype, huin⟩
  have hexec : exec (.measurementFrame ws) s = .next (goodUinFrame ws s) := by
    have hframe := receiveUin_whole ws s hone huin
    rw [uinFrame, if_pos hgood] at hframe
    exact congrArg Host.Outcome.next hframe
  obtain ⟨x, hx, hgoal, hnone, hlost⟩ := goodUinFrame_measurement s htype
  refine ⟨_, hexec, ?_⟩
  rw [hgoal]
  refine ⟨hx.cw .a, hx.cw .b, hx.cw .c, hx.flag .a, hx.flag .b, hx.flag .c, rfl, hx.ant, hx.edt, hx.ring, hx.sau,
    hx.dsr, hx.cmx, hx.par, hx.yPrev, hx.factor, hx.pending, _, rfl, fun h => ?_, fun h => ?_⟩
  · rw [hnone h, watchFrame_eq_phasesWatched]
    rfl
  · obtain ⟨u, hu, hx | hx⟩ := hlost h
    · refine ⟨u, hu, .inl ?_⟩
      rw [hx, watchFrame_eq_phasesWatched]
      rfl
    · refine ⟨u, hu, .inr ?_⟩
      rw [hx, watchFrame_eq_phasesWatched]
      rfl

end Sys2Proof.FlagsAndWatch

namespace Sys2Proof.FrameEvents

open Sys2Proof.Machine Sys2Proof.Safety Sys2Proof.EventDescriptors Sys2Proof.OutputLimits
open Sys2Proof.StepInvariants Sys2Proof.FlagsAndWatch

/-! ### What the events of a frame can do -/

/-- Notices alone have joined behind the reports that stood. -/
def Notified (s t : State) : Prop :=
  ∃ l, t.rpq.queue = s.rpq.queue ++ l ∧ ∀ r ∈ l, r.notice = true

theorem Notified.of_eq {s t : State} (h : t.rpq = s.rpq) : Notified s t :=
  ⟨[], by rw [h, List.append_nil], fun _ hr => nomatch hr⟩

theorem Notified.trans {s t u : State} (h : Notified s t) (k : Notified t u) : Notified s u := by
  obtain ⟨l, ht, hl⟩ := h
  obtain ⟨m, hu, hm⟩ := k
  refine ⟨l ++ m, by rw [hu, ht, List.append_assoc], fun r hr => ?_⟩
  exact (List.mem_append.1 hr).elim (hl r) (hm r)

theorem Notified.raise (n : Notice) (s : State) : Notified s (raise n s) := by
  unfold Machine.raise
  split
  · split
    · exact ⟨_, rfl, fun r hr => by rw [List.mem_singleton.1 hr]⟩
    · exact ⟨[], (List.append_nil _).symm, fun _ hr => nomatch hr⟩
  · exact .of_eq rfl

/-- The queue that stood is in front, and what is behind it are notices. -/
theorem Notified.queue_joined {s t : State} (h : Notified s t) :
    s.rpq.queue <+: t.rpq.queue ∧ ∀ r, r ∈ t.rpq.queue.drop s.rpq.queue.length → r.notice = true := by
  obtain ⟨l, ht, hl⟩ := h
  rw [ht]
  exact ⟨List.prefix_append _ _, fun r hr => hl r (by rwa [List.drop_left] at hr)⟩

/-- A marker has fired once or stands as it was. -/
def Spent (m m' : Marker) : Prop := m' = m ∨ (m.state = .armed ∧ m' = { m with state := .spent })

/-- The Scheduler's state stands, or a reading Scheduler has become HALTED. -/
def Halts (x y : SchedState) : Prop := y = x ∨ ((x = .running ∨ x = .stepping) ∧ y = .halted)

theorem Halts.trans {x y z : SchedState} (h : Halts x y) (k : Halts y z) : Halts x z := by
  rcases h with rfl | ⟨hx, rfl⟩
  · exact k
  · rcases k with rfl | ⟨hy, rfl⟩
    · exact .inr ⟨hx, rfl⟩
    · rcases hy with hy | hy <;> cases hy

theorem Spent.trans {m m' m'' : Marker} (h : Spent m m') (k : Spent m' m'') : Spent m m'' := by
  rcases h with rfl | ⟨hm, rfl⟩
  · exact k
  · rcases k with rfl | ⟨hm', rfl⟩
    · exact .inr ⟨hm, rfl⟩
    · cases hm'

/-- The cycle's slot, if it is a ONCE slot that a reading Scheduler finds, is emptied; the ring is the same
otherwise. -/
def SlotRead (s t : State) : Prop :=
  t.ring = s.ring ∨
    (Reads s ∧ (∃ o, tableGet s.ring (s.ant.cycle % 512) = some { offset := o, persistence := .once }) ∧
      t.ring = tableErase s.ring (s.ant.cycle % 512))

/-- What the events of a frame leave alone and what they can do to the rest, the contexts and the fault record
aside; `F` are the flags that they can set. -/
structure Moved (F : Flag → Prop) (s t : State) : Prop where
  only : EventsOnly s t
  planBase : t.sch.planBase = s.sch.planBase
  pendingBase : t.sch.pendingBase = s.sch.pendingBase
  state : Halts s.sch.state t.sch.state
  ring : SlotRead s t
  marker : ∀ k, Spent (s.mku.markers.get k) (t.mku.markers.get k)
  pulse : s.mku.pulse ≤ t.mku.pulse
  syncLevel : t.mku.syncLevel = s.mku.syncLevel
  syncCount : t.mku.syncCount = s.mku.syncCount
  notices : Notified s t
  flags : SetsOnly F s t

theorem tableGet_tableErase_self {α : Type} (t : List (Nat × α)) (i : Nat) : tableGet (tableErase t i) i = none := by
  rw [tableGet_erase, if_pos rfl]

namespace Moved

variable {F : Flag → Prop}

theorem reads {s t : State} (h : Moved F s t) (ht : Reads t) : Reads s := by
  rcases h.state with hs | ⟨hs, -⟩
  · unfold Reads at *
    rwa [hs] at ht
  · exact hs

theorem trans {s t u : State} (h : Moved F s t) (k : Moved F t u) : Moved F s u where
  only := h.only.trans k.only
  planBase := k.planBase.trans h.planBase
  pendingBase := k.pendingBase.trans h.pendingBase
  state := h.state.trans k.state
  ring := by
    have hant := h.only.ant
    rcases k.ring with hk | ⟨hreads, ⟨o, hslot⟩, hk⟩
    · rcases h.ring with hh | ⟨hreads, hslot, hh⟩
      · exact .inl (hk.trans hh)
      · exact .inr ⟨hreads, hslot, hk.trans hh⟩
    · rw [hant] at hslot hk
      rcases h.ring with hh | ⟨-, -, hh⟩
      · rw [hh] at hslot hk
        exact .inr ⟨h.reads hreads, ⟨o, hslot⟩, hk⟩
      · rw [hh, tableGet_tableErase_self] at hslot
        cases hslot
  marker n := (h.marker n).trans (k.marker n)
  pulse := Nat.le_trans h.pulse k.pulse
  syncLevel := k.syncLevel.trans h.syncLevel
  syncCount := k.syncCount.trans h.syncCount
  notices := h.notices.trans k.notices
  flags := h.flags.trans k.flags

/-- Reports, flags and the free-choice counter alone have moved. -/
theorem ofReports {s t : State} (h : ReportsOnly s t) (hn : Notified s t) (hf : SetsOnly F s t) : Moved F s t where
  only := h.events
  planBase := by rw [h.sch]
  pendingBase := by rw [h.sch]
  state := .inl (by rw [h.sch])
  ring := .inl h.ring
  marker k := .inl (by rw [h.mku])
  pulse := by rw [h.mku]
  syncLevel := by rw [h.mku]
  syncCount := by rw [h.mku]
  notices := hn
  flags := hf

theorem refl (s : State) : Moved F s s := ofReports (.refl s) (.of_eq rfl) (.refl s)

theorem mono {G : Flag → Prop} {s t : State} (hFG : ∀ f, F f → G f) (h : Moved F s t) : Moved G s t :=
  { h with flags := h.flags.mono hFG }

theorem ite {c : Prop} [Decidable c] {s t u : State} (ht : Moved F s t) (hu : Moved F s u) :
    Moved F s (if c then t else u) := by
  split
  · exact ht
  · exact hu

theorem raise (hF : F .noticeLost) (n : Notice) (s : State) : Moved F s (raise n s) :=
  ofReports (raise_only n s) (.raise n s) (.raise hF n s)

theorem raiseIf (hF : F .noticeLost) (c : Bool) (n : Notice) (s : State) : Moved F s (raiseIf c n s) :=
  ite (raise hF n s) (refl s)

theorem choose (n : Nat) (s : State) : Moved F s (choose n s).2 :=
  ofReports (choose_only n s) (.of_eq rfl) (.of_eq rfl)

theorem chooseFirst (s : State) : Moved F s (chooseFirst s).2 := choose 2 s

theorem setFlag {g : Flag} (hg : F g) (s : State) : Moved F s (setFlag g s) :=
  ofReports (setFlag_only g s) (.of_eq rfl) (.setFlag hg s)

theorem setFlagIf {c : Bool} {g : Flag} (hg : c = true → F g) (s : State) : Moved F s (setFlagIf c g s) :=
  ofReports (setFlagIf_only c g s) (.of_eq (by unfold Machine.setFlagIf; split <;> rfl)) (.setFlagIf hg s)

/-- The contexts alone have moved. -/
theorem withCx (x : Cx) (s : State) : Moved F s (s.withCx x) where
  only := withCx_only s x
  planBase := rfl
  pendingBase := rfl
  state := .inl rfl
  ring := .inl rfl
  marker _ := .inl rfl
  pulse := Nat.le_refl _
  syncLevel := rfl
  syncCount := rfl
  notices := .of_eq rfl
  flags := .of_eq rfl

/-- The Scheduler's state has moved, or its fault record. -/
theorem withSch {x : Sch} {s : State} (hbase : x.planBase = s.sch.planBase)
    (hpending : x.pendingBase = s.sch.pendingBase) (hstate : Halts s.sch.state x.state) :
    Moved F s (s.withSch x) where
  only := by constructor <;> rfl
  planBase := hbase
  pendingBase := hpending
  state := hstate
  ring := .inl rfl
  marker _ := .inl rfl
  pulse := Nat.le_refl _
  syncLevel := rfl
  syncCount := rfl
  notices := .of_eq rfl
  flags := .of_eq rfl

/-! ### Firing of markers -/

theorem stopNow (s : State) : Moved F s (stopNow s) := by
  have hhalt (h : s.sch.state = .running ∨ s.sch.state = .stepping) : Moved F s (haltNow s) :=
    (withSch (s := s) (x := { s.sch with state := .halted }) rfl rfl (.inr ⟨h, rfl⟩)).trans (withCx _ _)
  unfold Machine.stopNow
  split
  · next h => exact hhalt (.inl h)
  · next h => exact hhalt (.inr h)
  · exact refl s
  · exact refl s

theorem requestPulse (w : Nat) (s : State) : Moved F s (requestPulse w s) where
  only := requestPulse_only w s
  planBase := rfl
  pendingBase := rfl
  state := .inl rfl
  ring := .inl rfl
  marker _ := .inl rfl
  pulse := Nat.le_max_left _ _
  syncLevel := rfl
  syncCount := rfl
  notices := .of_eq rfl
  flags := .of_eq rfl

end Moved

theorem markers_get_set (m : Markers) (k n : Nat) (x : Marker) :
    (m.set k x).get n = if k < 4 ∧ (n = k ∨ (k = 3 ∧ 3 ≤ n)) then x else m.get n := by
  unfold Markers.set Markers.get
  split <;> split <;> simp_all <;> omega

/-- What the firing of marker k does before the marker's own next state: PULSE, STOP, NOTICE. -/
def fireActions (k : Nat) (s : State) : State :=
  let m := s.mku.markers.get k
  let s1 := if m.actions.getLsbD 0 then requestPulse m.width s else s
  let s2 := if m.actions.getLsbD 1 then stopNow s1 else s1
  raiseIf (m.actions.getLsbD 2) (.mark k s2.ant.cycle (angleNow s2)) s2

theorem fire_eq (k : Nat) (s : State) :
    fire k s =
      (fireActions k s).withMku
        { (fireActions k s).mku with
          markers := (fireActions k s).mku.markers.set k (afterFiring (s.mku.markers.get k)) } := rfl

theorem stopNow_mku (s : State) : (stopNow s).mku = s.mku := by
  unfold stopNow
  split <;> rfl

theorem raiseIf_mku (c : Bool) (n : Notice) (s : State) : (raiseIf c n s).mku = s.mku := (raiseIf_only c n s).mku

/-- Before its own next state, the firing of a marker reaches the pulse alone. -/
theorem fireActions_mku (k : Nat) (s : State) :
    (fireActions k s).mku =
      { s.mku with
        pulse :=
          if (s.mku.markers.get k).actions.getLsbD 0 then max s.mku.pulse (s.mku.markers.get k).width
          else s.mku.pulse } := by
  unfold fireActions
  dsimp only
  rw [raiseIf_mku]
  have hstop (c : Bool) (u : State) : (if c = true then stopNow u else u).mku = u.mku := by
    split
    · exact stopNow_mku u
    · rfl
  rw [hstop]
  split <;> rfl

/-- The Marker Unit after the firing of marker k: the marker itself, and the pulse. -/
theorem fire_mku (k : Nat) (s : State) :
    (fire k s).mku =
      { s.mku with
        pulse :=
          if (s.mku.markers.get k).actions.getLsbD 0 then max s.mku.pulse (s.mku.markers.get k).width
          else s.mku.pulse
        markers := s.mku.markers.set k (afterFiring (s.mku.markers.get k)) } := by
  rw [fire_eq, State.withMku_mku, fireActions_mku]

theorem afterFiring_spent (m : Marker) (h : m.state = .armed) : Spent m (afterFiring m) := by
  unfold afterFiring
  split
  · exact .inr ⟨h, rfl⟩
  · exact .inl rfl

namespace Moved

variable {F : Flag → Prop}

/-- A marker alone has moved. -/
theorem withMarker {k : Nat} {x : Marker} {s : State} (h : Spent (s.mku.markers.get k) x) :
    Moved F s (s.withMku { s.mku with markers := s.mku.markers.set k x }) where
  only := by constructor <;> rfl
  planBase := rfl
  pendingBase := rfl
  state := .inl rfl
  ring := .inl rfl
  marker n := by
    rw [State.withMku_mku, markers_get_set]
    split
    · next hn =>
      have hsame : s.mku.markers.get n = s.mku.markers.get k := by
        obtain ⟨-, rfl | ⟨rfl, hn⟩⟩ := hn
        · rfl
        · obtain ⟨m, rfl⟩ := Nat.exists_eq_add_of_le hn
          rw [Nat.add_comm]
          rfl
      rwa [hsame]
    · exact .inl rfl
  pulse := Nat.le_refl _
  syncLevel := rfl
  syncCount := rfl
  notices := .of_eq rfl
  flags := .of_eq rfl

theorem fire (hF : F .noticeLost) {k : Nat} {s : State} (harmed : (s.mku.markers.get k).state = .armed) :
    Moved F s (fire k s) := by
  have hpulse : Moved F s (if (s.mku.markers.get k).actions.getLsbD 0 then
      Machine.requestPulse (s.mku.markers.get k).width s else s) := ite (requestPulse _ s) (refl s)
  have hbefore : Moved F s (fireActions k s) := (ite (hpulse.trans (stopNow _)) hpulse).trans (raiseIf hF _ _ _)
  refine hbefore.trans (withMarker ?_)
  rw [fireActions_mku]
  exact afterFiring_spent _ harmed

theorem fireIfHit (hF : F .noticeLost) (hit : MarkerCond → Bool) (k : Nat) (s : State) :
    Moved F s (fireIfHit hit k s) := by
  unfold Machine.fireIfHit
  split
  · next h =>
    simp only [markerHit, Bool.and_eq_true, beq_iff_eq] at h
    exact fire hF h.1
  · exact refl s

theorem fireMarkers (hF : F .noticeLost) (hit : MarkerCond → Bool) (s : State) :
    Moved F s (fireMarkers hit s) :=
  (fireIfHit hF hit 0 s).trans <| (fireIfHit hF hit 1 _).trans <| (fireIfHit hF hit 2 _).trans
    (fireIfHit hF hit 3 _)

theorem fireWithNotice (hF : F .noticeLost) (hit : MarkerCond → Bool) (place : Nat) (n : Notice) (s : State) :
    Moved F s (fireWithNotice hit place n s) := by
  have hone (k : Nat) (t : State) : Moved F t (Machine.fireIfHit hit k (Machine.raiseIf (place == k) n t)) :=
    (raiseIf hF _ n t).trans (fireIfHit hF hit k _)
  exact (hone 0 s).trans <| (hone 1 _).trans <| (hone 2 _).trans <| (hone 3 _).trans (raiseIf hF _ n _)

theorem noticeAndFire (hF : F .noticeLost) (c : Bool) (n : Notice) (hit : MarkerCond → Bool) (s : State) :
    Moved F s (noticeAndFire c n hit s) :=
  ite ((choose 5 s).trans (fireWithNotice hF hit _ n _)) ((raiseIf hF c n s).trans (fireMarkers hF hit _))

/-! ### Faults and armings -/

theorem reportFault (hF : F .noticeLost) (c : FaultCause) (s : State) : Moved F s (reportFault c s) :=
  (withSch (s := s) (x := { s.sch with fault := s.sch.fault.or (some (faultNow c s)) }) rfl rfl (.inl rfl)).trans
    (raise hF _ _)

theorem consistencyFault (hF : F .noticeLost) (c : FaultCause) (s : State) : Moved F s (consistencyFault c s) := by
  refine (withSch (s := s) (x := { s.sch with state := if s.sch.state = .faulted then .faulted else .halted }) rfl
    rfl ?_).trans (reportFault hF c _)
  dsimp only
  unfold Halts
  cases s.sch.state <;> simp

/-- The flags that arming and notices set. -/
def ArmFlags (F : Flag → Prop) : Prop := F .noticeLost ∧ F .armSkipped

theorem offerEntry (hF : ArmFlags F) (source : ArmSource) (r : State × ArmCount) (i : Nat) :
    Moved F r.1 (offerEntry source r i).1 := by
  obtain ⟨hlost, hskipped⟩ := hF
  unfold Machine.offerEntry
  split
  · exact (setFlag hskipped _).trans (raise hlost _ _)
  · split
    · exact withCx _ _
    · exact refl _

theorem offerEntries (hF : ArmFlags F) (source : ArmSource) (l : List Nat) (s : State) :
    Moved F s (offerEntries source l s).1 := by
  have hfold (l : List Nat) : ∀ r : State × ArmCount, Moved F r.1 (l.foldl (Machine.offerEntry source) r).1 := by
    induction l with
    | nil => exact fun r => refl r.1
    | cons i l ih => exact fun r => (offerEntry hF source r i).trans (ih _)
  exact hfold l (s, ArmCount.zero)

theorem armChain (hF : ArmFlags F) (source : ArmSource) (head : Nat) (s : State) :
    Moved F s (armChain source head s) := by
  unfold Machine.armChain
  split
  · exact offerEntries hF source _ s
  · exact consistencyFault hF.1 _ s
  · exact consistencyFault hF.1 _ s

theorem armAfterLink (hF : ArmFlags F) (head : Nat) (s : State) : Moved F s (armAfterLink head s) :=
  ite (refl s) (armChain hF .chain head s)

/-! ### Lives and the ring read -/

theorem lifeStartsNow (hF : F .noticeLost) (i : Nat) (late : Bool) (s : State) :
    Moved F s (lifeStartsNow i late s) := by
  unfold Machine.lifeStartsNow
  split
  · exact refl s
  · exact noticeAndFire hF _ _ _ s

theorem contextEnds (hF : F .noticeLost) (c : Ctx) (aborted : Bool) (s : State) :
    Moved F s (contextEnds c aborted s) :=
  (withCx _ s).trans (ite (raiseIf hF _ _ _) (noticeAndFire hF _ _ _ _))

theorem lifeEndsNow (hF : F .noticeLost) (i : Nat) (s : State) : Moved F s (lifeEndsNow i s).1 := by
  unfold Machine.lifeEndsNow
  split
  · exact refl s
  · split
    · exact withCx _ s
    · exact contextEnds hF _ _ s

theorem emptyOnce {slot : Slot} {s : State} (hreads : Reads s)
    (hslot : tableGet s.ring (s.ant.cycle % 512) = some slot) : Moved F s (emptyOnce s.ant.cycle slot s) := by
  unfold Machine.emptyOnce
  split
  · next honce =>
    exact
      { only := by constructor <;> rfl
        planBase := rfl
        pendingBase := rfl
        state := .inl rfl
        ring := .inr ⟨hreads, ⟨slot.offset, by rw [hslot, ← honce]⟩, rfl⟩
        marker := fun _ => .inl rfl
        pulse := Nat.le_refl _
        syncLevel := rfl
        syncCount := rfl
        notices := .of_eq rfl
        flags := .of_eq rfl }
  · exact refl s

end Moved

/-! ### A context that joins the set at the ring read -/

/-- A context just armed makes no late start: its boundary count reaches 1 at most. -/
theorem takeFrame_newContext_event (f : FrameInfo) (i : Nat) (d : Desc) (n : Nat) (source : ArmSource) :
    (takeFrame f (newContext i d n source)).2 ≠ .start true := by
  have hcount : ¬2 ≤ (if f.boundary = true then 0 + 1 else 0) := by split <;> decide
  unfold takeFrame newContext takeWait waitTests
  dsimp only
  split
  · simp
  · simp

/-- Where the set has not grown, no context takes the frame at its tail. -/
theorem takeFrom_length (f : FrameInfo) (s : State) : takeFrom f s.cx.set.length s = (s, []) := by
  unfold takeFrom
  rw [List.drop_length, List.take_length]
  simp only [List.map_nil, List.append_nil, List.flatMap_nil, anyLate, List.any_nil, setFlagIf,
    Bool.false_eq_true, if_false]
  rfl

/-- The context at the tail takes the frame. -/
theorem takeFrom_append (f : FrameInfo) (s : State) (set : List Ctx) (n i act : Nat) (d : Desc) (source : ArmSource) :
    takeFrom f set.length (s.withCx { set := set ++ [newContext i d act source], activation := n }) =
      (s.withCx { set := set ++ [(takeFrame f (newContext i d act source)).1], activation := n },
        itemsOf (s.withCx { set := set ++ [(takeFrame f (newContext i d act source)).1], activation := n })
          (takeFrame f (newContext i d act source))) := by
  have hlate := takeFrame_newContext_event f i d act source
  unfold takeFrom
  simp only [State.withCx_cx, List.drop_left, List.take_left, List.map_cons, List.map_nil, List.flatMap_cons,
    List.flatMap_nil, List.append_nil, anyLate, List.any_cons, List.any_nil, Bool.or_false, State.withCx_withCx,
    beq_eq_false_iff_ne.2 hlate, setFlagIf, Bool.false_eq_true, if_false]

/-- One entry of a ring read's chain before its start is shown: skipped, or armed as a context that takes the
frame at once. -/
theorem ringEntry_cases (f : FrameInfo) (i : Nat) (s : State) :
    (∃ reason, skipReason s.cx.set i = some reason ∧
      takeFrom f s.cx.set.length (offerEntry .ring (s, ArmCount.zero) i).1 = (skipEntry .ring i reason s, [])) ∨
    (skipReason s.cx.set i = none ∧ tableGet s.edt i = none ∧
      takeFrom f s.cx.set.length (offerEntry .ring (s, ArmCount.zero) i).1 = (s, [])) ∨
    (∃ d c n t, skipReason s.cx.set i = none ∧ tableGet s.edt i = some d ∧ n = (s.cx.activation + 1) % 65536 ∧
      c = takeFrame f (newContext i d n .ring) ∧ t = s.withCx { set := s.cx.set ++ [c.1], activation := n } ∧
      takeFrom f s.cx.set.length (offerEntry .ring (s, ArmCount.zero) i).1 = (t, itemsOf t c)) := by
  unfold offerEntry
  dsimp only
  cases hskip : skipReason s.cx.set i with
  | some reason =>
    have hlen : (skipEntry .ring i reason s).cx.set.length = s.cx.set.length := by
      rw [skipEntry, (raise_only _ _).cx]
      rfl
    refine .inl ⟨reason, rfl, ?_⟩
    dsimp only
    rw [← hlen]
    exact takeFrom_length f _
  | none =>
    cases hentry : tableGet s.edt i with
    | none => exact .inr (.inl ⟨rfl, rfl, takeFrom_length f s⟩)
    | some d => exact .inr (.inr ⟨d, _, _, _, rfl, rfl, rfl, rfl, rfl, takeFrom_append f s s.cx.set _ i _ d .ring⟩)

namespace Moved

variable {F : Flag → Prop}

theorem startNowOrLater (hF : F .noticeLost) (items : List Item) (s : State) :
    Moved F s (startNowOrLater items s).1 := by
  unfold Machine.startNowOrLater
  split
  · split
    · exact (chooseFirst s).trans (lifeStartsNow hF _ _ _)
    · exact chooseFirst s
  · exact refl s

theorem offerRingEntry (hF : ArmFlags F) (f : FrameInfo) (r : State × List Item) (i : Nat) :
    Moved F r.1 (offerRingEntry f r i).1 := by
  obtain ⟨hlost, hskipped⟩ := hF
  unfold Machine.offerRingEntry
  dsimp only
  rcases ringEntry_cases f i r.1 with ⟨reason, -, h⟩ | ⟨-, -, h⟩ | ⟨d, c, n, t, -, -, -, -, rfl, h⟩ <;> rw [h]
  · exact ((setFlag hskipped _).trans (raise hlost _ _)).trans (startNowOrLater hlost _ _)
  · exact startNowOrLater hlost _ _
  · exact (withCx _ _).trans (startNowOrLater hlost _ _)

theorem armRing (hF : ArmFlags F) (f : FrameInfo) (head : Nat) (s : State) : Moved F s (armRing f head s).1 := by
  have hfold (l : List Nat) : ∀ r : State × List Item, Moved F r.1 (l.foldl (Machine.offerRingEntry f) r).1 := by
    induction l with
    | nil => exact fun r => refl r.1
    | cons i l ih => exact fun r => (offerRingEntry hF f r i).trans (ih _)
  unfold Machine.armRing
  split
  · exact hfold _ (s, [])
  · exact consistencyFault hF.1 _ s
  · exact consistencyFault hF.1 _ s

theorem ringReadNow (hF : ArmFlags F) (f : FrameInfo) (s : State) : Moved F s (ringReadNow f s).1 := by
  unfold Machine.ringReadNow
  split
  · next hr =>
    have hreads : Reads s := by
      unfold readsRing at hr
      unfold Reads
      cases hs : s.sch.state <;> simp_all
    split
    · exact refl s
    · next slot hslot => exact (emptyOnce hreads hslot).trans (armRing hF f _ _)
  · exact refl s

/-! ### The limits -/

/-- The flags that a frame's limits set. -/
def LimitFlag (l : PerPhase Limited) (f : Flag) : Prop :=
  ∃ p, (f = .slew p ∧ (l.get p).slewed = true) ∨ (f = .clip p ∧ (l.get p).clipped = true)

theorem limitFlag {acts : Bool} {g : Flag} (hF : F .noticeLost) (hg : acts = true → F g) (slew : Bool) (p : Phase)
    (s : State) : Moved F s (limitFlag acts g slew p s) := by
  unfold Machine.limitFlag
  split
  · next h => exact (setFlag (hg h) s).trans (raiseIf hF _ _ _)
  · exact refl s

theorem limitFlags {l : PerPhase Limited} (hF : F .noticeLost) (hl : ∀ g, LimitFlag l g → F g) (s : State) :
    Moved F s (limitFlags l s) := by
  have hphase (p : Phase) (t : State) : Moved F t (limitFlagsOf l p t) :=
    (limitFlag hF (fun h => hl _ ⟨p, .inl ⟨rfl, h⟩⟩) _ _ t).trans
      (limitFlag hF (fun h => hl _ ⟨p, .inr ⟨rfl, h⟩⟩) _ _ _)
  exact (hphase .a s).trans <| (hphase .b _).trans (hphase .c _)

/-- The flags that one item can set. -/
def ItemFlag (it : Item) (f : Flag) : Prop :=
  f = .noticeLost ∨ f = .armSkipped ∨ ∃ l, it = .limits l ∧ LimitFlag l f

/-- Every item of a frame's work moves the block so. -/
theorem doItem (f : FrameInfo) (it : Item) (s : State) : Moved (ItemFlag it) s (doItem f it s).1 := by
  have hlost : ItemFlag it .noticeLost := .inl rfl
  have harm : ArmFlags (ItemFlag it) := ⟨.inl rfl, .inr (.inl rfl)⟩
  cases it with
  | ringRead => exact ringReadNow harm f s
  | cycleMarks => exact fireMarkers hlost _ s
  | lifeStarts i late => exact lifeStartsNow hlost i late s
  | lifeEnds i => exact lifeEndsNow hlost i s
  | afterLink head => exact armAfterLink harm head s
  | limits l => exact limitFlags hlost (fun g hg => .inr (.inr ⟨l, rfl, hg⟩)) s
  | clipMarks c => exact fireMarkers hlost _ s

end Moved

end Sys2Proof.FrameEvents

namespace Sys2Proof.ContextRows

open Sys2Proof.Machine Sys2Proof.Safety Sys2Proof.EventDescriptors Sys2Proof.OutputLimits
open Sys2Proof.StepInvariants Sys2Proof.LinkRows Sys2Proof.FlagsAndWatch Sys2Proof.FrameEvents

/-! ### Contexts of a set by their index -/

theorem findCtx_replaceCtx {set : List Ctx} {i : Nat} {c c' : Ctx} (hc : findCtx set i = some c)
    (hc' : c'.index = i) : findCtx (replaceCtx set i c') i = some c' := by
  induction set with
  | nil => cases hc
  | cons e set ih =>
    unfold replaceCtx findCtx at *
    rw [List.map_cons]
    by_cases he : e.index = i
    · rw [if_pos he, List.find?_cons_of_pos (by simp [hc'])]
    · rw [List.find?_cons_of_neg (by simp [he])] at hc
      rw [if_neg he, List.find?_cons_of_neg (by simp [he])]
      exact ih hc

theorem findCtx_replaceCtx_other {set : List Ctx} {i j : Nat} {c' : Ctx} (hc' : c'.index = i) (hj : j ≠ i) :
    findCtx (replaceCtx set i c') j = findCtx set j := by
  induction set with
  | nil => rfl
  | cons e set ih =>
    unfold replaceCtx findCtx at *
    rw [List.map_cons]
    by_cases he : e.index = i
    · rw [if_pos he, List.find?_cons_of_neg (by simp [hc', hj.symm]),
        List.find?_cons_of_neg (by simp [he, hj.symm])]
      exact ih
    · rw [if_neg he, List.find?_cons, List.find?_cons, ih]

theorem findCtx_removeCtx (set : List Ctx) (i j : Nat) :
    findCtx (removeCtx set i) j = if j = i then none else findCtx set j := by
  induction set with
  | nil => split <;> rfl
  | cons e set ih =>
    unfold removeCtx findCtx at *
    by_cases he : e.index = i
    · rw [List.filter_cons_of_neg (by simp [he]), ih]
      by_cases hj : j = i
      · rw [if_pos hj, if_pos hj]
      · rw [if_neg hj, if_neg hj, List.find?_cons_of_neg (by simp [he, Ne.symm hj])]
    · rw [List.filter_cons_of_pos (by simp [he]), List.find?_cons, List.find?_cons, ih]
      by_cases hj : j = i
      · have hej : (e.index == j) = false := by simpa [hj] using he
        rw [hej, if_pos hj]
      · rw [if_neg hj, if_neg hj]

theorem replaceCtx_replaceCtx (set : List Ctx) (i : Nat) {c c' : Ctx} (hc : c.index = i) :
    replaceCtx (replaceCtx set i c) i c' = replaceCtx set i c' := by
  unfold replaceCtx
  rw [List.map_map]
  refine List.map_congr_left (fun e _ => ?_)
  simp only [Function.comp_apply]
  by_cases he : e.index = i
  · rw [if_pos he, if_pos hc, if_pos he]
  · rw [if_neg he, if_neg he]

theorem replaceCtx_indices (set : List Ctx) (i : Nat) {c : Ctx} (hc : c.index = i) :
    (replaceCtx set i c).map (·.index) = set.map (·.index) := by
  unfold replaceCtx
  rw [List.map_map]
  refine List.map_congr_left (fun e _ => ?_)
  simp only [Function.comp_apply]
  split
  · next he => rw [hc, he]
  · rfl

theorem removeCtx_replaceCtx (set : List Ctx) (i : Nat) {c : Ctx} (hc : c.index = i) :
    removeCtx (replaceCtx set i c) i = removeCtx set i := by
  induction set with
  | nil => rfl
  | cons e set ih =>
    unfold removeCtx replaceCtx at *
    rw [List.map_cons]
    by_cases he : e.index = i
    · rw [if_pos he, List.filter_cons_of_neg (by simp [hc]), List.filter_cons_of_neg (by simp [he])]
      exact ih
    · rw [if_neg he, List.filter_cons_of_pos (by simp [he]), List.filter_cons_of_pos (by simp [he]), ih]

theorem removeCtx_indices (set : List Ctx) (i : Nat) :
    (removeCtx set i).map (·.index) = (set.map (·.index)).filter (fun j => j != i) := by
  rw [removeCtx, List.filter_map]
  rfl

/-! ### The mark of a HALT -/

/-- The contexts are the same, or a HALT has marked them. -/
def MarkedOnly (s t : State) : Prop := t.cx = s.cx ∨ t.cx = { s.cx with set := markHalt s.cx.set }

theorem markHalt_markHalt (set : List Ctx) : markHalt (markHalt set) = markHalt set := by
  unfold markHalt
  rw [List.map_map]
  refine List.map_congr_left (fun c _ => ?_)
  simp only [Function.comp_apply]
  by_cases hc : c.mark = .none
  · rw [if_pos hc, if_neg (by simp)]
  · rw [if_neg hc, if_neg hc]

theorem markHalt_indices (set : List Ctx) : (markHalt set).map (·.index) = set.map (·.index) := by
  unfold markHalt
  rw [List.map_map]
  refine List.map_congr_left (fun c _ => ?_)
  simp only [Function.comp_apply]
  split <;> rfl

theorem findCtx_markHalt (set : List Ctx) (i : Nat) :
    findCtx (markHalt set) i =
      (findCtx set i).map (fun c => if c.mark = .none then { c with mark := .halt } else c) := by
  unfold findCtx markHalt
  rw [List.find?_map]
  congr 1
  refine congrArg (List.find? · set) (funext fun c => ?_)
  simp only [Function.comp_apply]
  split <;> rfl

namespace MarkedOnly

theorem refl (s : State) : MarkedOnly s s := .inl rfl

theorem trans {s t u : State} (h : MarkedOnly s t) (k : MarkedOnly t u) : MarkedOnly s u := by
  unfold MarkedOnly at *
  rcases h with h | h <;> rw [h] at k
  · exact k
  · rw [markHalt_markHalt] at k
    exact .inr (k.elim id id)

theorem ofReports {s t : State} (h : ReportsOnly s t) : MarkedOnly s t := .inl h.cx

theorem ite {c : Prop} [Decidable c] {s t u : State} (ht : MarkedOnly s t) (hu : MarkedOnly s u) :
    MarkedOnly s (if c then t else u) := by
  split
  · exact ht
  · exact hu

theorem stopNow (s : State) : MarkedOnly s (stopNow s) := by
  unfold Machine.stopNow
  split
  · exact .inr rfl
  · exact .inr rfl
  · exact refl s
  · exact refl s

theorem fire (k : Nat) (s : State) : MarkedOnly s (fire k s) := by
  have hpulse : MarkedOnly s (if (s.mku.markers.get k).actions.getLsbD 0 then
      requestPulse (s.mku.markers.get k).width s else s) := ite (.inl rfl) (refl s)
  have hactions : MarkedOnly s (fireActions k s) :=
    (ite (hpulse.trans (stopNow _)) hpulse).trans (ofReports (raiseIf_only _ _ _))
  exact hactions

theorem fireIfHit (hit : MarkerCond → Bool) (k : Nat) (s : State) : MarkedOnly s (fireIfHit hit k s) :=
  ite (fire k s) (refl s)

theorem fireMarkers (hit : MarkerCond → Bool) (s : State) : MarkedOnly s (fireMarkers hit s) :=
  (fireIfHit hit 0 s).trans <| (fireIfHit hit 1 _).trans <| (fireIfHit hit 2 _).trans (fireIfHit hit 3 _)

theorem fireWithNotice (hit : MarkerCond → Bool) (place : Nat) (n : Notice) (s : State) :
    MarkedOnly s (fireWithNotice hit place n s) := by
  have hone (k : Nat) (t : State) : MarkedOnly t (Machine.fireIfHit hit k (raiseIf (place == k) n t)) :=
    (ofReports (raiseIf_only _ n t)).trans (fireIfHit hit k _)
  exact (hone 0 s).trans <| (hone 1 _).trans <| (hone 2 _).trans <| (hone 3 _).trans (ofReports (raiseIf_only _ n _))

theorem noticeAndFire (c : Bool) (n : Notice) (hit : MarkerCond → Bool) (s : State) :
    MarkedOnly s (noticeAndFire c n hit s) :=
  ite ((ofReports (choose_only 5 s)).trans (fireWithNotice hit _ n _))
    ((ofReports (raiseIf_only c n s)).trans (fireMarkers hit _))

theorem lifeStartsNow (i : Nat) (late : Bool) (s : State) : MarkedOnly s (lifeStartsNow i late s) := by
  unfold Machine.lifeStartsNow
  split
  · exact refl s
  · exact noticeAndFire _ _ _ s

theorem indices {s t : State} (h : MarkedOnly s t) : t.cx.set.map (·.index) = s.cx.set.map (·.index) := by
  rcases h with h | h <;> rw [h]
  exact markHalt_indices _

theorem activation {s t : State} (h : MarkedOnly s t) : t.cx.activation = s.cx.activation := by
  rcases h with h | h <;> rw [h]

/-- A context stays in the set, and takes the mark HALT at most. -/
theorem found {s t : State} (h : MarkedOnly s t) {i : Nat} {c : Ctx} (hc : findCtx s.cx.set i = some c) :
    findCtx t.cx.set i = some c ∨ (c.mark = .none ∧ findCtx t.cx.set i = some { c with mark := .halt }) := by
  rcases h with h | h <;> rw [h]
  · exact .inl hc
  · dsimp only
    rw [findCtx_markHalt, hc, Option.map_some]
    by_cases hm : c.mark = .none
    · rw [if_pos hm]
      exact .inr ⟨hm, rfl⟩
    · rw [if_neg hm]
      exact .inl rfl

end MarkedOnly

/-! ### Notices and firings of lives -/

theorem notifiesStart_eq (d : Desc) : notifiesStart d = decide (d.notify = .start ∨ d.notify = .both) := by
  unfold notifiesStart
  cases d.notify <;> rfl

theorem notifiesEnd_eq (d : Desc) : notifiesEnd d = decide (d.notify = .finish ∨ d.notify = .both) := by
  unfold notifiesEnd
  cases d.notify <;> rfl

theorem fireIfHit_of_not {hit : MarkerCond → Bool} {k : Nat} {s : State} (h : markerHit hit k s = false) :
    fireIfHit hit k s = s := by
  unfold fireIfHit
  rw [h]
  rfl

/-- An occurrence that no marker meets does nothing. -/
theorem fireMarkers_of_not {hit : MarkerCond → Bool} {s : State} (h : anyMarkerHit hit s = false) :
    fireMarkers hit s = s := by
  simp only [anyMarkerHit, Bool.or_eq_false_iff] at h
  obtain ⟨⟨⟨h0, h1⟩, h2⟩, h3⟩ := h
  unfold fireMarkers
  rw [fireIfHit_of_not h0, fireIfHit_of_not h1, fireIfHit_of_not h2, fireIfHit_of_not h3]

theorem runItems_nil (f : FrameInfo) (n : Nat) (s : State) : runItems f n [] s = s := by
  cases n <;> rfl

theorem runAll_nil (f : FrameInfo) (s : State) : runAll f [] s = s := runItems_nil f _ s

/-- A single item, and what it leaves. -/
theorem runAll_singleton (f : FrameInfo) (x : Item) (s : State) :
    runAll f [x] s = runItems f 33 (doItem f x s).2 (doItem f x s).1 := rfl

theorem runItems_singleton (f : FrameInfo) (n : Nat) {x : Item} {s : State} (h : (doItem f x s).2 = []) :
    runItems f (n + 1) [x] s = (doItem f x s).1 := by
  unfold runItems
  dsimp only
  rw [h, runItems_nil]

/-- The start of a life comes about whether it shows or not. -/
theorem runAll_start (f : FrameInfo) {c : Ctx} (late : Bool) {u v : State} (hmku : v.mku = u.mku)
    (hc : findCtx u.cx.set c.index = some c) :
    runAll f (itemsOf v (c, .start late)) u = lifeStartsNow c.index late u := by
  unfold itemsOf
  dsimp only
  split
  · exact runItems_singleton f _ rfl
  · next h =>
    simp only [startShows, Bool.or_eq_true, not_or, Bool.not_eq_true] at h
    obtain ⟨hquiet, hmiss⟩ := h
    have hmiss' : anyMarkerHit (hitDescStart c.index) u = false := by
      rw [← hmiss]
      unfold anyMarkerHit markerHit
      rw [hmku]
    rw [runAll_nil, lifeStartsNow, hc]
    dsimp only
    rw [hquiet, noticeAndFire, Bool.false_and, if_neg (by decide), raiseIf, if_neg (by decide),
      fireMarkers_of_not hmiss']

theorem lifeStartsNow_spec {i : Nat} {c : Ctx} (late : Bool) {s : State} (hc : findCtx s.cx.set i = some c) :
    NoticeWithFiring (decide (c.snap.notify = .start ∨ c.snap.notify = .both))
      (.ctxStart i (min (c.lives + 1) 255) s.ant.cycle late) (.descStart i) s (lifeStartsNow i late s) := by
  rw [← notifiesStart_eq]
  unfold lifeStartsNow
  rw [hc]
  exact noticeAndFire_spec _ _ _ _ (fun _ => rfl) s

/-! ### The events of one context -/

theorem contextEvent_of_due {f : FrameInfo} {due : Ctx → Bool} {i : Nat} {s : State} {c : Ctx}
    (hc : findCtx s.cx.set i = some c) (hdue : due c = true) :
    contextEvent f due i s =
      runAll f
        (itemsOf (s.withCx { s.cx with set := replaceCtx s.cx.set i (takeFrame f c).1 }) (takeFrame f c))
        (setFlagIf ((takeFrame f c).2 == .start true) .startLate
          (s.withCx { s.cx with set := replaceCtx s.cx.set i (takeFrame f c).1 })) := by
  unfold contextEvent
  rw [hc]
  dsimp only
  rw [if_pos hdue, contextTakes, findCtx_index hc]

/-- An event that a context meets without starting or ending a life. -/
theorem contextEvent_of_nothing {f : FrameInfo} {due : Ctx → Bool} {i : Nat} {s : State} {c c' : Ctx}
    (hc : findCtx s.cx.set i = some c) (hdue : due c = true) (htake : takeFrame f c = (c', .nothing)) :
    contextEvent f due i s = s.withCx { s.cx with set := replaceCtx s.cx.set i c' } := by
  rw [contextEvent_of_due hc hdue, htake]
  exact runAll_nil f _

theorem contextEvent_of_start {f : FrameInfo} {due : Ctx → Bool} {i : Nat} {s : State} {c c' : Ctx} {late : Bool}
    (hc : findCtx s.cx.set i = some c) (hdue : due c = true) (htake : takeFrame f c = (c', .start late)) :
    contextEvent f due i s =
      lifeStartsNow i late
        (setFlagIf late .startLate (s.withCx { s.cx with set := replaceCtx s.cx.set i c' })) := by
  have hindex : c'.index = i := by
    have h := takeFrame_index f c
    rw [htake] at h
    exact h.trans (findCtx_index hc)
  have hflag : (CtxEvent.start late == .start true) = late := by cases late <;> rfl
  rw [contextEvent_of_due hc hdue, htake, ← hindex]
  dsimp only
  rw [hflag]
  have hsame := setFlagIf_only late .startLate (s.withCx { s.cx with set := replaceCtx s.cx.set c'.index c' })
  refine runAll_start f late hsame.mku.symm ?_
  rw [hsame.cx]
  exact findCtx_replaceCtx (by rwa [hindex]) rfl

/-- A life that has started, its context marked at most since. -/
theorem started_of_marked {i : Nat} {c : Ctx} {u t : State} (hc : findCtx u.cx.set i = some (started c))
    (h : MarkedOnly u t) : Started i c.snap t := by
  have hfields (c' : Ctx) (hc' : c' = started c ∨ c' = { started c with mark := .halt })
      (hfound : findCtx t.cx.set i = some c') : Started i c.snap t := by
    refine ⟨c', hfound, ?_⟩
    have htone (h : c.snap.kind = .tone) : (started c).tone = c.snap.phi * 65536 := if_pos h
    rcases hc' with rfl | rfl <;> exact ⟨rfl, rfl, rfl, rfl, rfl, rfl, rfl, rfl, htone⟩
  rcases h.found hc with h | ⟨-, h⟩
  · exact hfields _ (.inl rfl) h
  · exact hfields _ (.inr rfl) h

theorem waitTests_of_crossed {f : FrameInfo} {c : Ctx} (h : crosses f c.snap.alpha = true) :
    waitTests f c = (started c, .start false) := by
  rw [waitTests, if_pos h, startLife_eq_started]

theorem waitTests_of_late {f : FrameInfo} {c : Ctx} (h : crosses f c.snap.alpha = false) (hb : 2 ≤ c.bounds) :
    waitTests f c = (started c, .start true) := by
  rw [waitTests, h, if_neg (by decide), if_pos hb, startLife_eq_started]

theorem waitTests_of_waiting {f : FrameInfo} {c : Ctx} (h : crosses f c.snap.alpha = false) (hb : ¬2 ≤ c.bounds) :
    waitTests f c = ({ c with value := neutralOf c.snap.kind }, .nothing) := by
  rw [waitTests, h, if_neg (by decide), if_neg hb, neutral_eq]

theorem takeFrame_wait {f : FrameInfo} {c : Ctx} (h : c.life = .wait) :
    takeFrame f c = waitTests f { c with bounds := if f.boundary then c.bounds + 1 else c.bounds } := by
  unfold takeFrame takeWait
  rw [h]

theorem takeFrame_gapEnd {f : FrameInfo} {c : Ctx} (h : c.life = .gap) (hboundary : f.boundary = true)
    (hgap : c.snap.gap ≤ c.bounds + 1) :
    takeFrame f c = waitTests f { c with life := .wait, bounds := 1 } := by
  unfold takeFrame
  rw [h]
  exact (if_pos hboundary).trans (if_pos hgap)

theorem outsideContexts_of {s t : State} (h : EventsOnly s t) (hring : t.ring = s.ring) : OutsideContexts s t :=
  ⟨h.ant, h.edt, hring, h.sau, h.lmu, h.cw, h.dsr, h.up, h.cmx, h.par, h.pending⟩

/-- Settles O37: the row is `lifeStartsNow` on the set with the started context. -/
theorem lateStartBeginsALife : Obligations.LateStartBeginsALife := by
  unfold Obligations.LateStartBeginsALife
  intro i s c hc hlife hbounds hcross
  have htake : takeFrame (presentFrameInfo .boundary s) c = (started c, .start true) := by
    rw [takeFrame_wait hlife]
    exact waitTests_of_late hcross (Nat.le_of_eq (congrArg (· + 1) hbounds).symm)
  have hdue : lateStartDue (presentFrameInfo .boundary s) c = true := by
    simp only [lateStartDue, hlife, hbounds, hcross]
    rfl
  have hindex : (started c).index = i := show c.index = i from findCtx_index hc
  have hexec := congrArg Host.Outcome.next (contextEvent_of_start hc hdue htake) (β := Host.Outcome State Fault Refusal)
  have hu : findCtx (setFlagIf true .startLate
      (s.withCx { s.cx with set := replaceCtx s.cx.set i (started c) })).cx.set i = some (started c) :=
    findCtx_replaceCtx hc hindex
  have hmarked := MarkedOnly.lifeStartsNow i true (setFlagIf true .startLate
    (s.withCx { s.cx with set := replaceCtx s.cx.set i (started c) }))
  have hevents : EventsOnly s (setFlagIf true .startLate
      (s.withCx { s.cx with set := replaceCtx s.cx.set i (started c) })) := by constructor <;> rfl
  have houtside :=
      outsideContexts_of (hevents.trans (lifeStartsNow_only i true _)) (lifeStartsNow_sameTables i true _).ring
  have hring := houtside.2.2.1
  have hmoved := Moved.lifeStartsNow (F := fun f => f = .noticeLost) rfl i true (setFlagIf true .startLate
    (s.withCx { s.cx with set := replaceCtx s.cx.set i (started c) }))
  refine ⟨_, _, hexec, ?_, started_of_marked hu hmarked, hmarked.indices.trans (replaceCtx_indices _ _ hindex),
    hmarked.activation, houtside, hring, rfl, lifeStartsNow_spec (c := started c) true hu⟩
  exact hmoved.flags.stand _ (flagIsSet_flagsWith_self s.flags .startLate)

/-- Settles O38: the WAIT rule with a boundary count of 1 either waits on or starts a life. -/
theorem gapEndEntersWaitOnTheSameFrame : Obligations.GapEndEntersWaitOnTheSameFrame := by
  unfold Obligations.GapEndEntersWaitOnTheSameFrame
  intro i s c hc hlife hbounds
  have htake := takeFrame_gapEnd (f := presentFrameInfo .boundary s) hlife rfl (Nat.le_of_eq hbounds.symm)
  have hdue : gapEndDue (presentFrameInfo .boundary s) c = true := by
    simp [gapEndDue, hlife, hbounds, presentFrameInfo, FrameInfo.boundary]
  refine ⟨fun hcross => ?_, fun hcross => ?_⟩
  · rw [waitTests_of_waiting (by exact hcross) (show ¬2 ≤ 1 by decide)] at htake
    exact congrArg Host.Outcome.next (contextEvent_of_nothing hc hdue htake)
  · rw [waitTests_of_crossed (by exact hcross)] at htake
    have hsame : started { c with life := .wait, bounds := 1 } = started c := rfl
    rw [hsame] at htake
    have hindex : (started c).index = i := show c.index = i from findCtx_index hc
    have hu : findCtx (s.withCx { s.cx with set := replaceCtx s.cx.set i (started c) }).cx.set i = some (started c) :=
      findCtx_replaceCtx hc hindex
    have hmarked := MarkedOnly.lifeStartsNow i false
      (s.withCx { s.cx with set := replaceCtx s.cx.set i (started c) })
    have houtside := outsideContexts_of
      ((withCx_only s { s.cx with set := replaceCtx s.cx.set i (started c) }).trans (lifeStartsNow_only i false _))
      (lifeStartsNow_sameTables i false _).ring
    exact ⟨_, congrArg Host.Outcome.next (contextEvent_of_start hc hdue htake), started_of_marked hu hmarked,
      hmarked.indices.trans (replaceCtx_indices _ _ hindex), hmarked.activation, houtside,
      lifeStartsNow_spec (c := started c) false hu⟩

theorem takeFrame_rampInEnd {f : FrameInfo} {c : Ctx} (hlife : c.life = .rampIn)
    (hstep : c.snap.rampIn ≤ c.stepCount + 1) :
    takeFrame f c =
      ({ c with
         life := .hold
         value := if c.snap.kind = .openCircuit then 0 else c.snap.level
         stepCount := 0
         bounds := 0
         tone := if c.snap.kind = .tone then (c.tone + c.snap.freq) % 4294967296 else c.tone },
       .nothing) := by
  rw [takeFrame, hlife]
  dsimp only
  rw [takeRampIn]
  exact if_pos hstep

/-- Settles O39: the last step of `takeRampIn`. -/
theorem rampInEndEntersHold : Obligations.RampInEndEntersHold := by
  unfold Obligations.RampInEndEntersHold
  intro i s c hc hlife hstep
  have hdue : rampInEndDue c = true := by simp [rampInEndDue, hlife, hstep]
  exact congrArg Host.Outcome.next
    (contextEvent_of_nothing hc hdue (takeFrame_rampInEnd hlife (Nat.le_of_eq hstep.symm)))

/-- Settles O41: a HOLD frame of a FLICKER that completes its half, the end test failing. -/
theorem flickerHalfChangeTurnsTheHalf : Obligations.FlickerHalfChangeTurnsTheHalf := by
  unfold Obligations.FlickerHalfChangeTurnsTheHalf
  intro i s c hc hlife hkind hcount hholds
  have hdue : flickerHalfDue c = true := by simp [flickerHalfDue, hlife, hkind, hcount]
  have hframe : holdFrame (presentFrameInfo .advance s) c =
      { c with
        value := if c.flickHalf = .high then 16384 + c.snap.level / 2 else 16384 - c.snap.level / 2
        flickHalf := if c.flickHalf = .high then .low else .high
        flickCount := 0 } := by
    have hboundary : (presentFrameInfo .advance s).boundary = false := rfl
    rw [holdFrame, if_pos hkind, flickerStep, if_pos (Nat.le_of_eq hcount.symm), hboundary]
    cases hhalf : c.flickHalf <;> rfl
  have htake : takeFrame (presentFrameInfo .advance s) c = (holdFrame (presentFrameInfo .advance s) c, .nothing) := by
    have hends : (crosses (presentFrameInfo .advance s) c.snap.beta &&
        decide (c.snap.hold ≤ (holdFrame (presentFrameInfo .advance s) c).bounds)) = false := by
      rw [hframe]
      rcases hholds with h | h
      · rw [h, Bool.false_and]
      · rw [decide_eq_false (Nat.not_le.2 h), Bool.and_false]
    rw [takeFrame, hlife]
    dsimp only
    rw [takeHold, hends]
    rfl
  rw [hframe] at htake
  exact congrArg Host.Outcome.next (contextEvent_of_nothing hc hdue htake)

end Sys2Proof.ContextRows

namespace Sys2Proof.ChainRows

open Sys2Proof.Machine Sys2Proof.Safety Sys2Proof.EventDescriptors Sys2Proof.OutputLimits
open Sys2Proof.MarkersAndSync
open Sys2Proof.StepInvariants Sys2Proof.LinkRows Sys2Proof.FlagsAndWatch Sys2Proof.FrameEvents
open Sys2Proof.ContextRows

/-! ### Walks and their arming -/

theorem walk_of_unlinked {edt : List (Nat × Desc)} {i : Nat} {d : Desc} (hd : tableGet edt i = some d)
    (hlink : linksWith d = false) : walk edt i = .ok [i] := by
  unfold walk Config.walkLimit walkFrom
  rw [hd]
  dsimp only
  rw [hlink]
  rfl

/-- An entry that is not in the set is armed where the set has a place. -/
theorem offered_of_free {source : ArmSource} {s : State} {i : Nat} {d : Desc} (hd : tableGet s.edt i = some d)
    (hfree : findCtx s.cx.set i = none) (hroom : s.cx.set.length < 8) :
    offered source s i =
      { s with
        cx :=
          { set := s.cx.set ++ [joined i d source ((s.cx.activation + 1) % 65536)]
            activation := (s.cx.activation + 1) % 65536 } } := by
  unfold offered
  rw [hfree, if_neg (by decide), if_neg (Nat.not_le.2 hroom), hd]

/-- What an arming does, by the outcome of its walk. -/
theorem armChain_cases (source : ArmSource) (head : Nat) (s : State) :
    (∀ i, walk s.edt head = .empty i → armChain source head s = chainFault (.emptyDesc i) s) ∧
    (walk s.edt head = .long → armChain source head s = chainFault (.chainLong head) s) ∧
    (∀ l, walk s.edt head = .ok l → armChain source head s = l.foldl (offered source) s) := by
  unfold armChain
  refine ⟨fun i h => ?_, fun h => ?_, fun l h => ?_⟩ <;> rw [h]
  · rfl
  · rfl
  · exact offerEntries_eq source l s

theorem findCtx_eq_none {set : List Ctx} {i : Nat} (h : i ∉ set.map (·.index)) : findCtx set i = none :=
  List.find?_eq_none.2 fun c hc hi => h (List.mem_map.2 ⟨c, hc, beq_iff_eq.1 hi⟩)

/-! ### The end of a ramp-out -/

theorem takeFrame_rampOutEnd {f : FrameInfo} {c : Ctx} (hlife : c.life = .rampOut)
    (hstep : c.snap.rampOut = c.stepCount + 1) :
    takeFrame f c =
      ({ c with
         value := neutralOf c.snap.kind
         stepCount := c.snap.rampOut
         tone := if c.snap.kind = .tone then (c.tone + c.snap.freq) % 4294967296 else c.tone },
       .lifeEnd) := by
  have htake : takeFrame f c = takeRampOut c := by
    unfold takeFrame
    rw [hlife]
  rw [htake, takeRampOut, if_pos (Nat.le_of_eq hstep), neutral_eq, hstep]
  rfl

/-- A context at the end of its ramp-out takes the frame, and its life ends. -/
theorem rampOutEnd_eq {i : Nat} {s : State} {c c' : Ctx} (hc : findCtx s.cx.set i = some c)
    (hlife : c.life = .rampOut) (hstep : c.stepCount + 1 = c.snap.rampOut)
    (htake : takeFrame (presentFrameInfo .advance s) c = (c', .lifeEnd)) :
    exec (.rampOutEnd i) s =
      .next
        (runItems (presentFrameInfo .advance s) 33
          (lifeEndsNow i (s.withCx { s.cx with set := replaceCtx s.cx.set i c' })).2
          (lifeEndsNow i (s.withCx { s.cx with set := replaceCtx s.cx.set i c' })).1) := by
  have hdue : rampOutEndDue c = true := by simp [rampOutEndDue, hlife, hstep]
  have hindex : c'.index = i := by
    have h := takeFrame_index (presentFrameInfo .advance s) c
    rw [htake] at h
    exact h.trans (findCtx_index hc)
  refine congrArg Host.Outcome.next ((contextEvent_of_due hc hdue).trans ?_)
  rw [htake]
  unfold itemsOf
  dsimp only
  rw [hindex]
  exact runAll_singleton _ _ _

/-- The end of a life in the replaced set is decided on the replaced context. -/
theorem lifeEndsNow_replaced {i : Nat} {s : State} {c c' : Ctx} (hc : findCtx s.cx.set i = some c)
    (hindex : c'.index = i) :
    lifeEndsNow i (s.withCx { s.cx with set := replaceCtx s.cx.set i c' }) =
      match decideLife c' with
      | .goesOn c'' => (s.withCx { s.cx with set := replaceCtx s.cx.set i c'' }, [])
      | .ends aborted =>
        (contextEnds c' aborted (s.withCx { s.cx with set := replaceCtx s.cx.set i c' }), chainOf c' aborted) := by
  unfold lifeEndsNow
  rw [State.withCx_cx, findCtx_replaceCtx hc hindex]
  dsimp only
  cases hdecide : decideLife c' with
  | ends aborted => rfl
  | goesOn c'' =>
    dsimp only
    rw [State.withCx_withCx, replaceCtx_replaceCtx _ _ hindex]

/-- The end of a context, whose place in the set its last frame does not matter to. -/
theorem contextEnds_replaced {i : Nat} {s : State} {c' : Ctx} (hindex : c'.index = i) (aborted : Bool) :
    contextEnds c' aborted (s.withCx { s.cx with set := replaceCtx s.cx.set i c' }) = contextEnds c' aborted s := by
  unfold contextEnds
  rw [hindex, State.withCx_cx, removeCtx_replaceCtx _ _ hindex]
  rfl

theorem contextEnds_spec (c : Ctx) (s : State) :
    NoticeWithFiring (decide (c.snap.notify = .finish ∨ c.snap.notify = .both)) (.ctxEnd c.index false s.ant.cycle)
      (.descEnd c.index) { s with cx := { s.cx with set := s.cx.set.filter (fun d => d.index != c.index) } }
      (contextEnds c false s) := by
  rw [← notifiesEnd_eq]
  exact noticeAndFire_spec _ _ _ _ (fun _ => rfl) _

/-- An end by HALT or COMPLETE leaves the set without the context, the rest at most marked. -/
theorem contextEnds_marked (c : Ctx) (s : State) :
    MarkedOnly (s.withCx { s.cx with set := removeCtx s.cx.set c.index }) (contextEnds c false s) :=
  MarkedOnly.noticeAndFire _ _ _ _

theorem contextEnds_indices (c : Ctx) (s : State) :
    (contextEnds c false s).cx.set.map (·.index) = (s.cx.set.map (·.index)).filter (fun j => j != c.index) :=
  (contextEnds_marked c s).indices.trans (removeCtx_indices _ _)

theorem contextEnds_outside (c : Ctx) (s : State) : OutsideContexts s (contextEnds c false s) :=
  outsideContexts_of (contextEnds_only c false s) (contextEnds_sameTables c false s).ring

theorem decideLife_of_complete {c : Ctx} (hmark : c.mark = .none) (hrepeats : c.snap.repeats ≠ 0)
    (hlives : min (c.lives + 1) 255 = c.snap.repeats) : decideLife c = .ends false := by
  unfold decideLife livesAfter
  dsimp only
  rw [hmark, if_neg (by decide), if_neg (by decide), if_pos ⟨hrepeats, hlives⟩]

theorem decideLife_of_further {c : Ctx} (hmark : c.mark = .none)
    (hlives : c.snap.repeats = 0 ∨ min (c.lives + 1) 255 ≠ c.snap.repeats) :
    decideLife c =
      .goesOn
        { c with
          lives := min (c.lives + 1) 255
          life := if 1 ≤ c.snap.gap then .gap else .wait
          bounds := 0 } := by
  unfold decideLife livesAfter
  dsimp only
  rw [hmark, if_neg (by decide), if_neg (by decide),
    if_neg (fun h => hlives.elim h.1 (fun hne => hne h.2))]
  split <;> rfl

/-- The AFTER chain of a completed context, in a state that is not FAULTED. -/
theorem runItems_afterLink (f : FrameInfo) {head : Nat} {v : State} (hv : v.sch.state ≠ .faulted) :
    runItems f 33 [.afterLink head] v = armChain .chain head v := by
  rw [runItems_singleton f 32 (x := .afterLink head) rfl]
  exact if_neg hv

/-- Settles O40: `decideLife` and its ways on the context that has taken its last ramp-out frame. -/
theorem rampOutEndDecidesTheNextLife : Obligations.RampOutEndDecidesTheNextLife := by
  unfold Obligations.RampOutEndDecidesTheNextLife
  intro i s c hc hlife hstep
  have hi : c.index = i := findCtx_index hc
  have htake := takeFrame_rampOutEnd (f := presentFrameInfo .advance s) hlife hstep.symm
  generalize hc' : ({ c with
    value := neutralOf c.snap.kind
    stepCount := c.snap.rampOut
    tone := if c.snap.kind = .tone then (c.tone + c.snap.freq) % 4294967296 else c.tone } : Ctx) = c' at htake
  have hi' : c'.index = i := by rw [← hc']; exact hi
  have hmark' : c'.mark = c.mark := by rw [← hc']
  have hsnap' : c'.snap = c.snap := by rw [← hc']
  have hlives' : c'.lives = c.lives := by rw [← hc']
  have hexec := rampOutEnd_eq hc hlife hstep htake
  rw [lifeEndsNow_replaced hc hi'] at hexec
  have hends (aborted : Bool) (h : decideLife c' = .ends aborted) :
      exec (.rampOutEnd i) s =
        .next (runItems (presentFrameInfo .advance s) 33 (chainOf c' aborted) (contextEnds c' aborted s)) := by
    rw [hexec, h]
    dsimp only
    rw [contextEnds_replaced hi']
  have hcomplete (hm : c.mark = .none) (hr : c.snap.repeats ≠ 0) (hl : min (c.lives + 1) 255 = c.snap.repeats) :
      decideLife c' = .ends false :=
    decideLife_of_complete (hmark'.trans hm) (by rwa [hsnap']) (by rwa [hsnap', hlives'])
  have hspec := contextEnds_spec c' s
  rw [hi', hsnap'] at hspec
  have hindices := contextEnds_indices c' s
  rw [hi'] at hindices
  have hmoved := Moved.contextEnds (F := fun f => f = .noticeLost) rfl c' false s
  have hchain (hm : c.mark = .none) (hr : c.snap.repeats ≠ 0) (hl : min (c.lives + 1) 255 = c.snap.repeats)
      (hlink : linksAfter c.snap = true) (hs : s.sch.state ≠ .faulted) :
      exec (.rampOutEnd i) s = .next (armChain .chain (linkIndex i c.snap.next) (contextEnds c' false s)) := by
    have hv : (contextEnds c' false s).sch.state ≠ .faulted := by
      intro h
      rcases hmoved.state with hsame | ⟨-, hhalted⟩
      · exact hs (hsame.symm.trans h)
      · cases hhalted.symm.trans h
    have hitems : chainOf c' false = [.afterLink (linkIndex i c.snap.next)] := by
      unfold chainOf
      rw [hmark', hm, hsnap', hlink, hi']
      rfl
    rw [hends false (hcomplete hm hr hl), hitems, runItems_afterLink _ hv]
  have hedt : (contextEnds c' false s).edt = s.edt := hmoved.only.edt
  refine ⟨fun hm hl => ?_, fun hm => ?_, fun h => ?_, fun hm hr hl hlink hs => ?_,
    fun d hm hr hl hlink hs hd hunlinked hothers hlen => ?_⟩
  · have hfurther := decideLife_of_further (hmark'.trans hm) (by rwa [hsnap', hlives'])
    rw [hexec, hfurther, ← hc']
    exact congrArg Host.Outcome.next (runItems_nil _ _ _)
  · have habort : decideLife c' = .ends true := by unfold decideLife; exact if_pos (hmark'.trans hm)
    rw [hends true habort, contextEnds, hi', hsnap', notifiesEnd_eq]
    exact congrArg Host.Outcome.next (runItems_nil _ _ _)
  · have hitems : decideLife c' = .ends false ∧ chainOf c' false = [] := by
      rcases h with hm | ⟨hm, hr, hl, hlink⟩
      · refine ⟨?_, ?_⟩
        · unfold decideLife
          dsimp only
          rw [hmark', hm, if_neg (by decide), if_pos rfl]
        · unfold chainOf
          rw [hmark', hm]
          rfl
      · refine ⟨hcomplete hm hr hl, ?_⟩
        unfold chainOf
        rw [hsnap', hlink, Bool.and_false]
        rfl
    refine ⟨contextEnds c' false s, ?_, hindices, (contextEnds_marked c' s).activation, contextEnds_outside c' s,
      hspec⟩
    rw [hends false hitems.1, hitems.2, runItems_nil]
  · obtain ⟨hempty, hlong, hok⟩ := armChain_cases .chain (linkIndex i c.snap.next) (contextEnds c' false s)
    rw [hedt] at hempty hlong hok
    exact ⟨_, _, hchain hm hr hl hlink hs, hspec, hempty, hlong, hok⟩
  · obtain ⟨-, -, hok⟩ := armChain_cases .chain (linkIndex i c.snap.next) (contextEnds c' false s)
    have hd' : tableGet (contextEnds c' false s).edt (linkIndex i c.snap.next) = some d := by rwa [hedt]
    have hwalk := walk_of_unlinked hd' hunlinked
    have habsent : linkIndex i c.snap.next ∉ (contextEnds c' false s).cx.set.map (·.index) := by
      rw [hindices, List.mem_filter, List.mem_map]
      rintro ⟨⟨e, he, heq⟩, hne⟩
      exact hothers e he (by simpa [heq] using hne) heq
    have hroom : (contextEnds c' false s).cx.set.length < 8 := by
      have hmem : i ∈ s.cx.set.map (·.index) :=
        List.mem_map.2 ⟨c, List.mem_of_find?_eq_some hc, hi⟩
      have hshort := List.length_filter_lt_length_iff_exists (p := fun j => j != i).2 ⟨i, hmem, by simp⟩
      have hlength := congrArg List.length hindices
      rw [List.length_map] at hlength
      rw [List.length_map] at hshort
      omega
    have hfree := offered_of_free (source := .chain) hd' (findCtx_eq_none habsent) hroom
    have hactivation : (contextEnds c' false s).cx.activation = s.cx.activation := (contextEnds_marked c' s).activation
    refine ⟨_, hchain hm hr hl hlink hs, ?_⟩
    rw [hok _ hwalk, List.foldl_cons, List.foldl_nil, hfree]
    refine ⟨?_, congrArg (fun n => (n + 1) % 65536) hactivation, contextEnds_outside c' s⟩
    dsimp only
    rw [List.map_append, hindices]
    rfl

/-! ### An edge of SYNC_IN -/

/-- A Scheduler that does not read the ring is not stopped by a marker, and no context is marked. -/
def Unstopped (s t : State) : Prop := ¬Reads s → t.cx = s.cx ∧ t.sch = s.sch

namespace Unstopped

theorem refl (s : State) : Unstopped s s := fun _ => ⟨rfl, rfl⟩

theorem trans {s t u : State} (h : Unstopped s t) (k : Unstopped t u) : Unstopped s u := by
  intro hs
  obtain ⟨hcx, hsch⟩ := h hs
  obtain ⟨kcx, ksch⟩ := k (by unfold Reads; rwa [hsch])
  exact ⟨kcx.trans hcx, ksch.trans hsch⟩

theorem fire (k : Nat) (s : State) : Unstopped s (fire k s) := by
  intro hs
  have hstop (t : State) (ht : t.sch = s.sch) : stopNow t = t := by
    have hquiet : ¬(t.sch.state = .running ∨ t.sch.state = .stepping) := by rw [ht]; exact hs
    unfold stopNow
    split
    · next h => exact absurd (.inl h) hquiet
    · next h => exact absurd (.inr h) hquiet
    · rfl
    · rfl
  have hpulse : ∀ b : Bool, (if b = true then requestPulse (s.mku.markers.get k).width s else s).cx = s.cx ∧
      (if b = true then requestPulse (s.mku.markers.get k).width s else s).sch = s.sch := by
    intro b
    cases b <;> exact ⟨rfl, rfl⟩
  obtain ⟨hcx, hsch⟩ := hpulse ((s.mku.markers.get k).actions.getLsbD 0)
  have hactions : fireActions k s = raiseIf ((s.mku.markers.get k).actions.getLsbD 2) _ _ := rfl
  rw [hstop _ hsch, ite_self] at hactions
  rw [fire_eq]
  refine ⟨?_, ?_⟩
  · show (fireActions k s).cx = s.cx
    rw [hactions, (raiseIf_only _ _ _).cx, hcx]
  · show (fireActions k s).sch = s.sch
    rw [hactions, (raiseIf_only _ _ _).sch, hsch]

theorem fireIfHit (hit : MarkerCond → Bool) (k : Nat) (s : State) : Unstopped s (fireIfHit hit k s) := by
  unfold Machine.fireIfHit
  split
  · exact fire k s
  · exact refl s

theorem fireMarkers (hit : MarkerCond → Bool) (s : State) : Unstopped s (fireMarkers hit s) :=
  (fireIfHit hit 0 s).trans <| (fireIfHit hit 1 _).trans <| (fireIfHit hit 2 _).trans (fireIfHit hit 3 _)

end Unstopped

theorem syncMarkers_eq (s : State) : fireMarkers hitSync s = fired .sync s :=
  fireMarkers_eq_fired .sync hitSync (fun _ => rfl) s

/-- A reading Scheduler offers the chain at the plan base plus SYNC_OFFSET. -/
theorem syncAtScheduler_of_reads {s : State} (h : Reads s) :
    syncAtScheduler s = s.par.syncOffset.elim s (fun o => armChain .sync (resolveOffset s o) s) := by
  unfold syncAtScheduler
  rcases h with h | h <;> rw [h] <;> cases s.par.syncOffset <;> rfl

theorem not_reads_iff (s : State) : ¬Reads s ↔ s.sch.state = .halted ∨ s.sch.state = .faulted := by
  unfold Reads
  cases s.sch.state <;> decide

theorem syncAtScheduler_of_not_reads {s : State} (h : ¬Reads s) : syncAtScheduler s = setFlag .syncIgnored s := by
  unfold syncAtScheduler
  rcases (not_reads_iff s).1 h with h | h <;> rw [h]

/-- The Scheduler's share of a qualified sync event. -/
theorem syncAtScheduler_moved (s : State) :
    Moved (fun f => f = .noticeLost ∨ f = .armSkipped ∨ (f = .syncIgnored ∧ ¬Reads s)) s (syncAtScheduler s) := by
  by_cases h : Reads s
  · rw [syncAtScheduler_of_reads h]
    cases s.par.syncOffset with
    | none => exact Moved.refl s
    | some o => exact Moved.armChain ⟨.inl rfl, .inr (.inl rfl)⟩ .sync _ s
  · rw [syncAtScheduler_of_not_reads h]
    exact Moved.setFlag (.inr (.inr ⟨rfl, h⟩)) s

/-- Settles O34: `takeEdge`, its Scheduler's share and the firing of the SYNC markers. -/
theorem syncEdgeReachesTheScheduler : Obligations.SyncEdgeReachesTheScheduler := by
  unfold Obligations.SyncEdgeReachesTheScheduler
  intro s hqual
  have hother : otherLevel s.mku.syncLevel ≠ s.mku.syncLevel := by cases s.mku.syncLevel <;> decide
  have hexec : exec .syncInEdge s = .next (takeEdge s) :=
    congrArg Host.Outcome.next (if_pos ((edgeDue_iff _ s).2 ⟨hother, hqual⟩))
  generalize hu : ({ s with
    mku := { s.mku with syncLevel := otherLevel s.mku.syncLevel, syncCount := 0 } } : State) = u
  have hucx : u.cx = s.cx := by rw [← hu]
  have husch : u.sch = s.sch := by rw [← hu]
  have huedt : u.edt = s.edt := by rw [← hu]
  have hupar : u.par = s.par := by rw [← hu]
  have huflags : u.flags = s.flags := by rw [← hu]
  have hulevel : u.mku.syncLevel = otherLevel s.mku.syncLevel := by rw [← hu]
  have hucount : u.mku.syncCount = 0 := by rw [← hu]
  have huevents : EventsOnly s u := by rw [← hu]; constructor <;> rfl
  have huring : u.ring = s.ring := by rw [← hu]
  have htake : takeEdge s = if edgeMatches s.par.syncEdge (otherLevel s.mku.syncLevel) then syncEvent u else u := by
    rw [← hu]
    rfl
  have hmarkers := Moved.fireMarkers (F := fun f => f = .noticeLost) rfl hitSync (syncAtScheduler u)
  have hsync := (syncAtScheduler_moved u).trans (hmarkers.mono fun _ hf => .inl hf)
  have hring : (syncEvent u).ring = u.ring :=
    ((fireMarkers_sameTables hitSync _).ring).trans (syncAtScheduler_sameTables u).ring
  have hall : EventsOnly u (takeEdge s) ∧ (takeEdge s).ring = u.ring ∧
      (takeEdge s).mku.syncLevel = otherLevel s.mku.syncLevel ∧ (takeEdge s).mku.syncCount = 0 := by
    rw [htake]
    split
    · exact ⟨hsync.only, hring, hsync.syncLevel.trans hulevel, hsync.syncCount.trans hucount⟩
    · exact ⟨.refl u, rfl, hulevel, hucount⟩
  obtain ⟨hevents, htring, hlevel, hcount⟩ := hall
  have honly := huevents.trans hevents
  refine ⟨takeEdge s, u, hexec, by rw [hlevel, hu], by rwa [hlevel], hcount, honly.ant, honly.edt,
    htring.trans huring, honly.sau, honly.lmu, honly.cw, honly.dsr, honly.up, honly.cmx, honly.par, honly.pending,
    fun hmatch => ?_, fun hmatch => ?_⟩
  · rw [hlevel] at hmatch
    rw [htake, hmatch]
    rfl
  rw [hlevel] at hmatch
  rw [if_pos hmatch] at htake
  have hfired : takeEdge s = fired .sync (syncAtScheduler u) := htake.trans (syncMarkers_eq _)
  have hmarked : MarkedOnly (syncAtScheduler u) (takeEdge s) := by rw [htake]; exact .fireMarkers _ _
  refine ⟨fun hs => ?_, fun hs => ?_⟩
  · have hquiet : ¬Reads u := (not_reads_iff u).2 (by rwa [husch])
    have hignored := syncAtScheduler_of_not_reads hquiet
    obtain ⟨hcx, hsch⟩ := Unstopped.fireMarkers hitSync (syncAtScheduler u) (by rwa [hignored])
    rw [hignored] at hcx hsch hfired hmarkers
    refine ⟨?_, ?_, ?_, ?_⟩
    · rw [hfired, setFlag, ← huflags]
      rfl
    · have hset := hmarkers.flags.stand .syncIgnored (flagIsSet_flagsWith_self u.flags .syncIgnored)
      rwa [htake, syncEvent, hignored]
    · rw [htake, syncEvent, hignored, hcx]
      exact hucx
    · rw [htake, syncEvent, hignored, hsch]
      exact husch
  · have hreads : Reads u := by unfold Reads; rwa [husch]
    have hshare := syncAtScheduler_of_reads hreads
    refine ⟨?_, fun hoff => ?_, fun o head hoff hhead => ?_⟩
    · rw [htake, ← huflags]
      refine hsync.flags.other .syncIgnored ?_
      rintro (h | h | ⟨-, h⟩)
      · cases h
      · cases h
      · exact h hreads
    · rw [hupar, hoff, Option.elim_none] at hshare
      rw [hshare] at hfired hmarked
      exact ⟨hfired, by rw [hmarked.indices, hucx]⟩
    · have hresolve : resolveOffset u o = head := by rw [resolveOffset, husch, hhead]
      rw [hupar, hoff, Option.elim_some, hresolve] at hshare
      rw [hshare] at hfired hmarked
      obtain ⟨hempty, hlong, hok⟩ := armChain_cases .sync head u
      rw [huedt] at hempty hlong hok
      refine ⟨fun i h => by rw [hfired, hempty i h], fun h => by rw [hfired, hlong h],
        fun l h => by rw [hfired, hok l h], fun d hd hlink habsent hroom => ?_⟩
      have hfree := offered_of_free (source := .sync) (s := u) (by rwa [huedt]) (by rwa [hucx]) (by rwa [hucx])
      have harmed := hok _ (walk_of_unlinked hd hlink)
      rw [List.foldl_cons, List.foldl_nil, hfree, hucx] at harmed
      rw [harmed] at hfired hmarked
      refine ⟨hfired, ?_, ?_⟩
      · rw [hmarked.indices]
        exact List.map_append
      · exact hmarked.activation

end Sys2Proof.ChainRows

namespace Sys2Proof.SchedulerCommands

open Sys2Proof.Machine Sys2Proof.Safety Sys2Proof.EventDescriptors Sys2Proof.OutputLimits
open Sys2Proof.StepInvariants Sys2Proof.FlagsAndWatch Sys2Proof.FrameEvents
open Sys2Proof.ContextRows Sys2Proof.ChainRows

/-! ### Slots (R39) -/

theorem slotRangeOk_iff (first count : Nat) :
    slotRangeOk first count = true ↔ first ≤ 511 ∧ 1 ≤ count ∧ count ≤ 30 ∧ first + count ≤ 512 := by
  simp only [slotRangeOk, Bool.and_eq_true, decide_eq_true_eq, and_assoc]

/-- A record is refused, or read as the slot it stores. -/
theorem readSlotRecord_eq (w : Word) :
    (SlotRefused w ∧ readSlotRecord w = none) ∨ (¬SlotRefused w ∧ readSlotRecord w = some (slotOf w)) := by
  unfold SlotRefused readSlotRecord slotOf
  rcases hstate : field w 24 8 with _ | _ | n
  · exact .inr ⟨by omega, rfl⟩
  · rcases hpers : field w 16 8 with _ | _ | _ | n
    · exact .inl ⟨.inr ⟨rfl, by omega, by omega⟩, rfl⟩
    · exact .inr ⟨by omega, rfl⟩
    · exact .inr ⟨by omega, rfl⟩
    · exact .inl ⟨.inr ⟨rfl, by omega, by omega⟩, rfl⟩
  · exact .inl ⟨.inl (by omega), rfl⟩

theorem readSlotRecords_of_refused {ws : List Word} (h : ∃ r, r ∈ ws ∧ SlotRefused r) : readSlotRecords ws = none := by
  obtain ⟨r, hr, hrefused⟩ := h
  induction ws with
  | nil => cases hr
  | cons w rest ih =>
    rcases readSlotRecord_eq w with ⟨-, hread⟩ | ⟨hok, hread⟩
    · rw [readSlotRecords, hread]
    · rcases List.mem_cons.1 hr with rfl | hr
      · exact absurd hrefused hok
      · rw [readSlotRecords, hread, ih hr]

theorem readSlotRecords_of_accepted {ws : List Word} (h : ∀ r, r ∈ ws → ¬SlotRefused r) :
    readSlotRecords ws = some (ws.map slotOf) := by
  induction ws with
  | nil => rfl
  | cons w rest ih =>
    have hread := (readSlotRecord_eq w).resolve_left fun hw => h w (List.mem_cons_self ..) hw.1
    rw [readSlotRecords, hread.2, ih fun r hr => h r (List.mem_cons_of_mem _ hr)]
    rfl

/-- Every slot of the range holds its record, and every other slot is as before. -/
theorem tableGet_putSlots (records : List (Option Slot)) {ring : List (Nat × Slot)} {first : Nat}
    (hroom : first + records.length ≤ 512) (hring : tableWf 512 ring = true) (k : Nat) :
    tableGet (putSlots ring first records) k =
      if first ≤ k ∧ k < first + records.length then records.getD (k - first) none else tableGet ring k := by
  induction records generalizing ring first with
  | nil => rw [putSlots, if_neg (by simp only [List.length_nil]; omega)]
  | cons r rest ih =>
    rw [List.length_cons] at hroom ⊢
    have hput := tableWf_put 512 ring first r (by omega) hring
    rw [putSlots, ih (by omega) hput, tableGet_put ring first k r ((tableWf_iff 512 ring).1 hring).1]
    by_cases hk : k = first
    · subst hk
      rw [if_neg (by omega), if_pos rfl, if_pos (by omega), Nat.sub_self, List.getD_cons_zero]
    · rw [if_neg hk]
      by_cases hin : first + 1 ≤ k ∧ k < first + 1 + rest.length
      · rw [if_pos hin, if_pos (by omega), show k - first = (k - (first + 1)) + 1 by omega, List.getD_cons_succ]
      · rw [if_neg hin, if_neg (by omega)]

theorem commandArrives_writeSlots (tag : Tag) (w : Word) (records : List Word) (s : State)
    (h : records.length = lo16 w) :
    commandArrives ⟨codeWriteSlots, tag, w :: records⟩ s = plain (arriveWriteSlots (w :: records) s) := by
  have hreq : requiredLength codeWriteSlots (w :: records) = some (1 + lo16 w) := rfl
  have hlen : (w :: records).length = 1 + lo16 w := by rw [List.length_cons, h, Nat.add_comm]
  simp only [commandArrives, hreq, hlen, if_true]
  rfl

/-- Settles O55: the range test, then all the records at once. -/
theorem writeSlotsWritesTheWholeRange : Obligations.WriteSlotsWritesTheWholeRange := by
  unfold Obligations.WriteSlotsWritesTheWholeRange
  intro tag w records s hlen ht
  have hexec {st : Status} {t : State} (h : arriveWriteSlots (w :: records) s = (st, t)) :
      exec (.writeSlots tag (w :: records)) s = .next (answered ⟨codeWriteSlots, tag, w :: records⟩ st [] t) := by
    refine exec_of_fixed rfl ht ?_
    rw [commandArrives_writeSlots tag w records s hlen, h, plain]
  refine ⟨fun hrange => hexec (if_neg (mt (slotRangeOk_iff _ _).1 hrange)), fun hrange => ?_⟩
  have harrive : arriveWriteSlots (w :: records) s =
      (readSlotRecords records).elim (.badField, s) (fun l => (.ok, s.withRing (putSlots s.ring (hi16 w) l))) := by
    refine (if_pos ((slotRangeOk_iff _ _).2 hrange)).trans ?_
    show _ = (readSlotRecords ((w :: records).drop 1)).elim _ _
    cases readSlotRecords ((w :: records).drop 1) <;> rfl
  refine ⟨fun hrefused => hexec (by rw [harrive, readSlotRecords_of_refused hrefused, Option.elim_none]),
    fun hok => ⟨s.withRing (putSlots s.ring (hi16 w) (records.map slotOf)), hexec ?_, rfl, fun hring k => ?_⟩⟩
  · rw [harrive, readSlotRecords_of_accepted hok, Option.elim_some]
  · have hput := tableGet_putSlots (records.map slotOf) (first := hi16 w)
      (by rw [List.length_map, hlen]; omega) hring k
    rw [List.length_map, hlen] at hput
    rw [State.withRing_ring, hput]
    refine ⟨fun hout => if_neg (by omega), fun hlow hhigh => ?_⟩
    have hk : k - hi16 w < records.length := by omega
    rw [if_pos ⟨hlow, hhigh⟩, List.getD_eq_getElem _ _ (by rwa [List.length_map]), List.getElem_map,
      List.getD_eq_getElem _ _ hk]

/-! ### RUN, STEP, HALT, SET_CYCLE -/

theorem exec_of_plain {i : Instr} {c : Cmd} {s t : State} {st : Status} {r : Status × State}
    (hi : commandOf i = some c) (ht : Takes c s) (ha : commandArrives c s = plain r) (hr : r = (st, t)) :
    exec i s = .next (answered c st [] t) :=
  exec_of_fixed hi ht (by rw [ha, hr, plain])

theorem markHalt_eq (set : List Ctx) :
    markHalt set = set.map (fun c => { c with mark := if c.mark = .none then .halt else c.mark }) :=
  List.map_congr_left fun c _ => by split <;> rfl

/-- Settles O56: the four rules and their tests of the Scheduler's state. -/
theorem schedulerCommandsFollowTheState : Obligations.SchedulerCommandsFollowTheState := by
  unfold Obligations.SchedulerCommandsFollowTheState
  intro tag w s
  refine ⟨fun ht => ?_, fun ht => ?_, fun ht => ?_, fun ht => ?_⟩
  · have ha : commandArrives ⟨codeRun, tag, []⟩ s = plain (arriveRun s) := rfl
    split
    · next hs => exact exec_of_plain rfl ht ha (if_pos hs)
    · next hs => exact exec_of_plain rfl ht ha (if_neg hs)
  · have ha : commandArrives ⟨codeStep, tag, []⟩ s = plain (arriveStep s) := rfl
    split
    · next hs => exact exec_of_plain rfl ht ha (if_pos hs)
    · next hs => exact exec_of_plain rfl ht ha (if_neg hs)
  · have ha : commandArrives ⟨codeHalt, tag, []⟩ s = plain (arriveHalt s) := rfl
    split
    · next hs => exact exec_of_plain rfl ht ha (if_pos hs)
    · next hs =>
      rw [← markHalt_eq]
      exact exec_of_plain rfl ht ha (if_neg hs)
  · have ha : commandArrives ⟨codeSetCycle, tag, [w]⟩ s = plain (arriveSetCycle [w] s) := rfl
    split
    · next hs => exact exec_of_plain rfl ht ha (if_pos hs)
    · next hs => exact exec_of_plain rfl ht ha (if_neg hs)

/-! ### CLEAR_FAULT -/

theorem releaseSafe_of (a : TripAction) (c : CwPhase) (h : a = .safe ∧ c.tripped = true) :
    releaseSafe a c = { overs := 0, tripped := false, fold := c.fold } := by
  obtain ⟨rfl, h⟩ := h
  rw [releaseSafe, h]
  rfl

theorem releaseSafe_of_not (a : TripAction) (c : CwPhase) (h : ¬(a = .safe ∧ c.tripped = true)) :
    releaseSafe a c = c :=
  if_neg (by simpa [and_comm] using h)

/-- Settles O58: the three branches of `arriveClearFault`. -/
theorem clearFaultLeavesTheSafetyStop : Obligations.ClearFaultLeavesTheSafetyStop := by
  unfold Obligations.ClearFaultLeavesTheSafetyStop
  intro tag s ht
  have ha : commandArrives ⟨codeClearFault, tag, []⟩ s = plain (arriveClearFault s) := rfl
  refine ⟨fun hs => exec_of_plain rfl ht ha (if_neg hs),
    fun hs hlinks => exec_of_plain rfl ht ha ((if_pos hs).trans (if_neg hlinks)),
    fun hs hdown hup => ⟨s.cw.map (releaseSafe s.par.tripAction), fun p => ?_,
      exec_of_plain rfl ht ha ((if_pos hs).trans (if_pos ⟨hdown, hup⟩))⟩⟩
  rw [get_map]
  exact ⟨releaseSafe_of _ _, releaseSafe_of_not _ _⟩

/-! ### ABORT -/

theorem raise_withFreeCount (n : Notice) (k : Nat) (s : State) :
    raise n (s.withFreeCount k) = (raise n s).withFreeCount k := by
  by_cases hmask : maskEnables s.par.notifyMask n = true <;>
    by_cases hfits : noticeFits s.rpq.queue = true <;>
    simp only [raise, State.withFreeCount_par, State.withFreeCount_rpq, hmask, hfits, if_true, if_false,
      Bool.false_eq_true] <;> rfl

theorem foldl_raise_withFreeCount (ns : List Notice) (k : Nat) (s : State) :
    ns.foldl (fun u n => raise n u) (s.withFreeCount k) =
      (ns.foldl (fun u n => raise n u) s).withFreeCount k := by
  induction ns generalizing s with
  | nil => rfl
  | cons n ns ih => rw [List.foldl_cons, List.foldl_cons, raise_withFreeCount, ih]

/-- Notices raised in a free order are raised in some order, and the free-choice counter moves. -/
theorem raiseFree_eq_foldl (n : Nat) (ns : List Notice) (s : State) (h : ns.length ≤ n) :
    ∃ l : List Notice, l.Perm ns ∧ ∃ k, raiseFree n ns s = (l.foldl (fun u x => raise x u) s).withFreeCount k := by
  induction n generalizing ns s with
  | zero =>
    rw [List.eq_nil_of_length_eq_zero (Nat.le_zero.1 h)]
    exact ⟨[], .nil, s.freeCount, rfl⟩
  | succ n ih =>
    match ns with
    | [] => exact ⟨[], .nil, s.freeCount, rfl⟩
    | [x] =>
      obtain ⟨l, hl, k, hk⟩ := ih [] (raise x s) (Nat.zero_le n)
      exact ⟨x :: l, hl.cons x, k, hk⟩
    | x :: y :: rest =>
      have hi : (choose (rest.length + 2) s).1 < (x :: y :: rest).length := Nat.mod_lt _ (Nat.succ_pos _)
      obtain ⟨l, hl, k, hk⟩ := ih ((x :: y :: rest).eraseIdx (choose (rest.length + 2) s).1)
        (raise ((x :: y :: rest).getD (choose (rest.length + 2) s).1 x) (choose (rest.length + 2) s).2)
        (by rw [List.length_eraseIdx_of_lt hi]; simp only [List.length_cons] at *; omega)
      refine ⟨(x :: y :: rest)[(choose (rest.length + 2) s).1] :: l,
        (hl.cons _).trans (List.getElem_cons_eraseIdx_perm hi), k, ?_⟩
      refine hk.trans ?_
      rw [List.getD_eq_getElem _ _ hi, List.foldl_cons]
      show (l.foldl _ (raise _ (s.withFreeCount _))).withFreeCount k = _
      rw [raise_withFreeCount, foldl_raise_withFreeCount]
      rfl

/-- A context stays in the set of an ABORT. -/
def stays (c : Ctx) : Bool :=
  c.life = .rampOut ∨ ((c.life = .rampIn ∨ c.life = .hold) ∧ c.snap.kind ≠ .flicker ∧ c.snap.rampOut ≠ 0)

/-- What ABORT makes of a context that stays. -/
def outgoing (c : Ctx) : Ctx :=
  if c.life = .rampOut then { c with mark := .abort }
  else { c with life := .rampOut, rampStart := c.value, stepCount := 0, mark := .abort }

theorem abortCtx_eq (c : Ctx) : abortCtx c = if stays c then some (outgoing c) else none := by
  obtain ⟨index, snap, activation, source, first, life, rest⟩ := c
  cases life with
  | wait => rfl
  | gap => rfl
  | rampOut => rfl
  | rampIn => by_cases hk : snap.kind = .flicker <;> by_cases hr : snap.rampOut = 0 <;>
      simp [abortCtx, stays, outgoing, hk, hr]
  | hold => by_cases hk : snap.kind = .flicker <;> by_cases hr : snap.rampOut = 0 <;>
      simp [abortCtx, stays, outgoing, hk, hr]

/-- The set that an ABORT leaves. -/
theorem filterMap_abortCtx (set : List Ctx) : set.filterMap abortCtx = (set.filter stays).map outgoing := by
  induction set with
  | nil => rfl
  | cons c set ih =>
    rw [List.filterMap_cons, List.filter_cons, abortCtx_eq, ih]
    cases stays c <;> rfl

/-- The contexts that an ABORT takes out: those that wait, stand in a gap or have no ramp-out. -/
theorem stays_eq_false_iff (c : Ctx) :
    stays c = false ↔
      c.life ≠ .rampOut ∧ (c.life = .wait ∨ c.life = .gap ∨ c.snap.kind = .flicker ∨ c.snap.rampOut = 0) := by
  simp only [stays, decide_eq_false_iff_not]
  cases c.life <;> simp [Decidable.or_iff_not_imp_left]

theorem abortNotices_eq (s : State) : abortNotices s.cx.set s.ant.cycle = abortedNotices s := by
  unfold abortNotices abortedNotices
  congr 1
  refine List.filter_congr fun c _ => ?_
  have hleaves : (abortCtx c).isNone = decide (stays c = false) := by
    rw [abortCtx_eq]
    cases stays c <;> rfl
  rw [hleaves, notifiesEnd_eq, ← Bool.decide_and, decide_eq_decide, stays_eq_false_iff, and_comm]

/-- Settles O57: the set by `abortCtx`, the notices in the order that `raiseFree` takes. -/
theorem abortTakesEveryContextOut : Obligations.AbortTakesEveryContextOut := by
  unfold Obligations.AbortTakesEveryContextOut
  intro tag s ht
  have ha : commandArrives ⟨codeAbort, tag, []⟩ s = plain (arriveAbort s) := rfl
  refine ⟨fun hs => exec_of_plain rfl ht ha (if_pos hs), fun hs => ?_⟩
  generalize hu : (s.withSch { s.sch with state := .halted }).withCx
    { s.cx with set := s.cx.set.filterMap abortCtx } = u
  have harrive : arriveAbort s = (.ok, raiseAll (abortNotices s.cx.set s.ant.cycle) u) := by
    rw [← hu]
    exact if_neg hs
  have hsame := raiseAll_only (abortNotices s.cx.set s.ant.cycle) u
  have hsch : u.sch = { s.sch with state := .halted } := by rw [← hu]; rfl
  have hcx : u.cx = { s.cx with set := (s.cx.set.filter stays).map outgoing } := by
    rw [← hu, ← filterMap_abortCtx]
    rfl
  have hmoved : Notified u (raiseAll (abortNotices s.cx.set s.ant.cycle) u) ∧
      SetsOnly (· = .noticeLost) u (raiseAll (abortNotices s.cx.set s.ant.cycle) u) :=
    raiseAll_keeps (fun t => Notified u t ∧ SetsOnly (· = .noticeLost) u t)
      (fun n t ⟨hn, hf⟩ => ⟨hn.trans (.of_eq rfl), hf.trans (.of_eq rfl)⟩)
      (fun x t ⟨hn, hf⟩ => ⟨hn.trans (.raise x t), hf.trans (.notice x t)⟩) _ u ⟨.of_eq rfl, .refl u⟩
  obtain ⟨hnotified, hflags⟩ := hmoved
  obtain ⟨l, hperm, k, hfold⟩ := raiseFree_eq_foldl _ (abortNotices s.cx.set s.ant.cycle) u (Nat.le_refl _)
  have hqueue : u.rpq = s.rpq := by rw [← hu]; rfl
  have huflags : u.flags = s.flags := by rw [← hu]; rfl
  have houtside : OutsideContexts s u := by rw [← hu]; exact ⟨rfl, rfl, rfl, rfl, rfl, rfl, rfl, rfl, rfl, rfl, rfl⟩
  have hprefix := hnotified.queue_joined
  rw [hqueue] at hprefix
  refine ⟨raiseAll (abortNotices s.cx.set s.ant.cycle) u, exec_of_plain rfl ht ha harrive, hsame.sch.trans hsch,
    hsame.cx.trans hcx, ?_, ?_, fun f hf => ?_, hprefix.1, hprefix.2, l, abortNotices_eq s ▸ hperm, ?_⟩
  · obtain ⟨h1, h2, h3, h4, h5, h6, h7, h8, h9, h10, h11⟩ := houtside
    exact ⟨hsame.ant.trans h1, hsame.edt.trans h2, hsame.ring.trans h3, hsame.sau.trans h4, hsame.lmu.trans h5,
      hsame.cw.trans h6, hsame.dsr.trans h7, hsame.up.trans h8, hsame.cmx.trans h9, hsame.par.trans h10,
      hsame.pending.trans h11⟩
  · rw [hsame.mku, ← hu]
    rfl
  · rw [← huflags]
    exact hflags.other f hf
  · rw [hsame.sch, hsame.cx, raiseAll, hfold, ← hu]
    rfl

/-! ### ARM -/

/-- What offering the entries of a walk has done. -/
structure Offers (l : List Nat) (r r' : State × ArmCount) : Prop where
  rest : EventsOnly r.1 r'.1
  ring : r'.1.ring = r.1.ring
  sch : r'.1.sch = r.1.sch
  mku : r'.1.mku = r.1.mku
  grows : r.1.cx.set <+: r'.1.cx.set
  added : ((r'.1.cx.set.drop r.1.cx.set.length).map (·.index)).Sublist l
  armed : r'.1.cx.set.length + r.2.armed = r.1.cx.set.length + r'.2.armed
  total : r'.2.armed + r'.2.skipped = r.2.armed + r.2.skipped + l.length
  skipped : r.2.skipped ≤ r'.2.skipped
  present : r'.1.cx.set.length < 8 → ∀ j ∈ l, (findCtx r'.1.cx.set j).isSome = true
  flag : flagIsSet r'.1.flags .armSkipped = true ↔
    flagIsSet r.1.flags .armSkipped = true ∨ r.2.skipped < r'.2.skipped
  first : ∀ reason, r.2.firstSkip = some reason → r'.2.firstSkip = some reason

theorem findCtx_of_prefix {set set' : List Ctx} {j : Nat} (h : set <+: set') (hj : (findCtx set j).isSome = true) :
    (findCtx set' j).isSome = true := by
  obtain ⟨more, rfl⟩ := h
  unfold findCtx at *
  rw [List.find?_append, Option.isSome_or, hj, Bool.true_or]

theorem skipReason_some_cases {set : List Ctx} {i : Nat} {reason : SkipReason} (h : skipReason set i = some reason) :
    ((findCtx set i).isSome = true ∧ reason = .duplicate) ∨
      (findCtx set i = none ∧ 8 ≤ set.length ∧ reason = .setFull) := by
  unfold skipReason at h
  split at h
  · next hdup => exact .inl ⟨hdup, (Option.some.inj h).symm⟩
  · next hdup =>
    split at h
    · next hfull => exact .inr ⟨by simpa using hdup, hfull, (Option.some.inj h).symm⟩
    · cases h

theorem offerEntry_of_skip {source : ArmSource} {r : State × ArmCount} {i : Nat} {reason : SkipReason}
    (h : skipReason r.1.cx.set i = some reason) :
    offerEntry source r i =
      (skipEntry source i reason r.1,
        { r.2 with skipped := r.2.skipped + 1, firstSkip := r.2.firstSkip.or (some reason) }) := by
  unfold offerEntry
  rw [h]

theorem offerEntry_of_armed {source : ArmSource} {r : State × ArmCount} {i : Nat} {d : Desc}
    (h : skipReason r.1.cx.set i = none) (hd : tableGet r.1.edt i = some d) :
    offerEntry source r i = (armEntry source i d r.1, { r.2 with armed := r.2.armed + 1 }) := by
  unfold offerEntry
  rw [h, hd]

theorem skipEntry_flag (source : ArmSource) (i : Nat) (reason : SkipReason) (s : State) :
    flagIsSet (skipEntry source i reason s).flags .armSkipped = true :=
  (SetsOnly.notice _ (setFlag .armSkipped s)).stand _ (flagIsSet_flagsWith_self s.flags .armSkipped)

theorem offers_one (source : ArmSource) (r : State × ArmCount) {i : Nat} {d : Desc} (hd : tableGet r.1.edt i = some d) :
    Offers [i] r (offerEntry source r i) := by
  cases hskip : skipReason r.1.cx.set i with
  | some reason =>
    have hsame : ReportsOnly r.1 (skipEntry source i reason r.1) :=
      (setFlag_only _ _).trans (raise_only _ _)
    rw [offerEntry_of_skip hskip]
    refine ⟨hsame.events, hsame.ring, hsame.sch, hsame.mku, ?_, ?_, ?_, ?_, Nat.le_succ _, fun hroom j hj => ?_, ?_,
      fun reason' h => ?_⟩
    · rw [hsame.cx]
    · rw [hsame.cx, List.drop_length]
      exact List.nil_sublist _
    · rw [hsame.cx]
    · exact (Nat.add_assoc _ _ _).symm
    · rw [hsame.cx] at hroom ⊢
      rw [List.mem_singleton.1 hj]
      rcases skipReason_some_cases hskip with ⟨hdup, -⟩ | ⟨-, hfull, -⟩
      · exact hdup
      · exact absurd hfull (Nat.not_le.2 hroom)
    · exact iff_of_true (skipEntry_flag _ _ _ _) (.inr (Nat.lt_succ_self _))
    · dsimp only
      rw [h, Option.some_or]
  | none =>
    rw [offerEntry_of_armed hskip hd]
    refine ⟨withCx_only _ _, rfl, rfl, rfl, List.prefix_append _ _, ?_, ?_, ?_, Nat.le_refl _, fun _ j hj => ?_, ?_,
      fun _ h => h⟩
    · show (((r.1.cx.set ++ [newContext i d _ source]).drop _).map _).Sublist _
      rw [List.drop_left]
      exact List.Sublist.refl _
    · show (r.1.cx.set ++ [newContext i d _ source]).length + _ = _
      rw [List.length_append, List.length_singleton]
      dsimp only
      omega
    · exact Nat.succ_add _ _
    · rw [List.mem_singleton.1 hj]
      show (findCtx (r.1.cx.set ++ [newContext i d _ source]) i).isSome = true
      unfold findCtx
      rw [List.find?_append, Option.isSome_or, List.find?_cons_of_pos (by simp [newContext]), Option.isSome_some,
        Bool.or_true]
    · exact (or_iff_left (Nat.lt_irrefl _)).symm

theorem Offers.refl (r : State × ArmCount) : Offers [] r r where
  rest := .refl _
  ring := rfl
  sch := rfl
  mku := rfl
  grows := List.prefix_rfl
  added := by rw [List.drop_length]; exact List.Sublist.refl _
  armed := rfl
  total := rfl
  skipped := Nat.le_refl _
  present := fun _ _ hj => nomatch hj
  flag := (or_iff_left (Nat.lt_irrefl _)).symm
  first := fun _ h => h

theorem Offers.trans {l l' : List Nat} {r r' r'' : State × ArmCount} (h : Offers l r r') (k : Offers l' r' r'') :
    Offers (l ++ l') r r'' where
  rest := h.rest.trans k.rest
  ring := k.ring.trans h.ring
  sch := k.sch.trans h.sch
  mku := k.mku.trans h.mku
  grows := h.grows.trans k.grows
  added := by
    obtain ⟨m, hm⟩ := h.grows
    obtain ⟨m', hm'⟩ := k.grows
    have h1 := h.added
    have h2 := k.added
    rw [← hm, List.drop_left] at h1
    rw [← hm', List.drop_left] at h2
    rw [← hm', ← hm, List.append_assoc, List.drop_left, List.map_append]
    exact h1.append h2
  armed := by
    have h1 := h.armed
    have h2 := k.armed
    omega
  total := by
    have h1 := h.total
    have h2 := k.total
    rw [List.length_append]
    omega
  skipped := h.skipped.trans k.skipped
  present := fun hroom j hj => by
    rcases List.mem_append.1 hj with hj | hj
    · exact findCtx_of_prefix k.grows (h.present (Nat.lt_of_le_of_lt k.grows.length_le hroom) j hj)
    · exact k.present hroom j hj
  flag := by
    have h1 := h.skipped
    have h2 := k.skipped
    rw [k.flag, h.flag, or_assoc]
    exact or_congr_right (by omega)
  first := fun reason hr => k.first reason (h.first reason hr)

/-- Every entry of the walk is armed or skipped. -/
theorem offers_foldl (source : ArmSource) (l : List Nat) (r : State × ArmCount)
    (hvalid : ∀ j ∈ l, (tableGet r.1.edt j).isSome = true) : Offers l r (l.foldl (offerEntry source) r) := by
  induction l generalizing r with
  | nil => exact .refl r
  | cons i l ih =>
    obtain ⟨d, hd⟩ := Option.isSome_iff_exists.1 (hvalid i (List.mem_cons_self ..))
    have hone := offers_one source r hd
    exact hone.trans (ih _ fun j hj => by rw [hone.rest.edt]; exact hvalid j (List.mem_cons_of_mem _ hj))

/-- A walk without a fault visits VALID entries from its head on, and no more than its limit. -/
theorem walkFrom_ok {edt : List (Nat × Desc)} {n i : Nat} {l : List Nat} (h : walkFrom edt n i = .ok l) :
    (∀ j ∈ l, (tableGet edt j).isSome = true) ∧ l.length ≤ n ∧ ∃ rest, l = i :: rest := by
  induction n generalizing i l with
  | zero => cases h
  | succ n ih =>
    unfold walkFrom at h
    cases hd : tableGet edt i with
    | none => rw [hd] at h; cases h
    | some d =>
      have hhead : (tableGet edt i).isSome = true := by rw [hd]; rfl
      rw [hd] at h
      dsimp only at h
      split at h
      · split at h
        · next l' hl' =>
          cases h
          obtain ⟨hvalid, hlen, -⟩ := ih hl'
          exact ⟨List.forall_mem_cons.2 ⟨hhead, hvalid⟩, Nat.succ_le_succ hlen, _, rfl⟩
        · cases h
        · cases h
      · cases h
        exact ⟨List.forall_mem_cons.2 ⟨hhead, fun _ hj => nomatch hj⟩, Nat.succ_le_succ (Nat.zero_le n), _, rfl⟩

theorem Offers.armed_le {l : List Nat} {r r' : State × ArmCount} (h : Offers l r r') : r.2.armed ≤ r'.2.armed := by
  have h1 := h.armed
  have h2 := h.grows.length_le
  omega

/-- Where no entry is armed, the first skip is the head's. -/
theorem armStatus_eq {source : ArmSource} {i : Nat} {rest : List Nat} {s : State}
    (hvalid : ∀ j ∈ i :: rest, (tableGet s.edt j).isSome = true) :
    armStatus (offerEntries source (i :: rest) s).2 =
      if 0 < (offerEntries source (i :: rest) s).2.armed then .ok
      else if (findCtx s.cx.set i).isSome then .duplicate else .full := by
  obtain ⟨d, hd⟩ := Option.isSome_iff_exists.1 (hvalid i (List.mem_cons_self ..))
  have hedt := (offers_one source (s, ArmCount.zero) hd).rest.edt
  have hrest : Offers rest (offerEntry source (s, ArmCount.zero) i) (offerEntries source (i :: rest) s) :=
    offers_foldl source rest _ fun j hj => by rw [hedt]; exact hvalid j (List.mem_cons_of_mem _ hj)
  unfold armStatus
  split
  · rfl
  · next hnone =>
    cases hskip : skipReason s.cx.set i with
    | none =>
      have harmed := hrest.armed_le
      rw [offerEntry_of_armed hskip hd] at harmed
      exact absurd harmed hnone
    | some reason =>
      have hfirst := hrest.first reason (by rw [offerEntry_of_skip hskip]; rfl)
      rw [hfirst]
      rcases skipReason_some_cases hskip with ⟨hdup, rfl⟩ | ⟨habsent, -, rfl⟩
      · rw [if_pos hdup]
      · rw [habsent]
        rfl

theorem arriveArm_of_walk {w : Word} {s : State} {l : List Nat} (hw : w.toNat ≤ 255) (hs : s.sch.state ≠ .faulted)
    (hl : walk s.edt w.toNat = .ok l) :
    arriveArm [w] s =
      (armStatus (offerEntries .command l s).2,
        [word2 (offerEntries .command l s).2.armed (offerEntries .command l s).2.skipped],
        l.foldl (offered .command) s) := by
  rw [← offerEntries_eq, ← halves_eq_word2]
  unfold arriveArm
  dsimp only
  rw [show ([w] : List Word).getD 0 0 = w from rfl, if_neg (Nat.not_lt.2 hw), if_neg hs, hl]

theorem arriveArm_of_fault {w : Word} {s : State} (hw : w.toNat ≤ 255) (hs : s.sch.state ≠ .faulted) :
    (∀ i, walk s.edt w.toNat = .empty i → arriveArm [w] s = (.empty, [], s)) ∧
      (walk s.edt w.toNat = .long → arriveArm [w] s = (.badField, [], s)) := by
  unfold arriveArm
  dsimp only
  rw [show ([w] : List Word).getD 0 0 = w from rfl, if_neg (Nat.not_lt.2 hw), if_neg hs]
  exact ⟨fun i h => by rw [h], fun h => by rw [h]⟩

theorem exec_arm {tag : Tag} {w : Word} {s t : State} {st : Status} {payload : List Word}
    (ht : Takes ⟨codeArm, tag, [w]⟩ s) (ha : arriveArm [w] s = (st, payload, t)) :
    exec (.arm tag [w]) s = .next (answered ⟨codeArm, tag, [w]⟩ st payload t) := by
  have harrives : commandArrives ⟨codeArm, tag, [w]⟩ s =
      (.fixed (arriveArm [w] s).1 (arriveArm [w] s).2.1, (arriveArm [w] s).2.2) := rfl
  exact exec_of_fixed rfl ht (by rw [harrives, ha])

theorem walk_of_empty {edt : List (Nat × Desc)} {i : Nat} (h : tableGet edt i = none) : walk edt i = .empty i := by
  unfold walk Config.walkLimit walkFrom
  rw [h]

/-- A chain of one entry: its counts are those of the one offer. -/
theorem exec_arm_single {tag : Tag} {w word : Word} {s t : State} {d : Desc} {n : ArmCount} {st : Status}
    (ht : Takes ⟨codeArm, tag, [w]⟩ s) (hw : w.toNat ≤ 255) (hs : s.sch.state ≠ .faulted)
    (hd : tableGet s.edt w.toNat = some d) (hlink : linksWith d = false)
    (hr : offerEntry .command (s, ArmCount.zero) w.toNat = (t, n)) (hst : armStatus n = st)
    (hword : word2 n.armed n.skipped = word) :
    exec (.arm tag [w]) s = .next (answered ⟨codeArm, tag, [w]⟩ st [word] t) := by
  have hone : offerEntries .command [w.toNat] s = (t, n) := hr
  have harrive := arriveArm_of_walk hw hs (walk_of_unlinked hd hlink)
  rw [← offerEntries_eq, hone, hst, hword] at harrive
  exact exec_arm ht harrive

/-- Settles O59: the tests of `arriveArm` in order, then `Offers` for the entries of the walk. -/
theorem armMakesAContextOrSaysWhyNot : Obligations.ArmMakesAContextOrSaysWhyNot := by
  unfold Obligations.ArmMakesAContextOrSaysWhyNot
  intro tag w s ht
  refine ⟨fun hw => exec_arm ht (if_pos hw),
    fun hw hs => exec_arm ht ((if_neg (Nat.not_lt.2 hw)).trans (if_pos hs)), fun hw hs => ?_⟩
  obtain ⟨hempty, hlong⟩ := arriveArm_of_fault hw hs
  refine ⟨fun h => exec_arm ht (hempty _ (walk_of_empty h)), fun i h => exec_arm ht (hempty i h),
    fun h => exec_arm ht (hlong h), fun l hl => ?_, fun d hd hlink => ⟨fun habsent hroom => ?_, fun hdup => ?_,
      fun habsent hfull => ?_⟩⟩
  · obtain ⟨hvalid, hlen, rest, rfl⟩ := walkFrom_ok hl
    have ho := offers_foldl .command (w.toNat :: rest) (s, ArmCount.zero) hvalid
    change Offers _ _ (offerEntries .command (w.toNat :: rest) s) at ho
    have hstatus := armStatus_eq (source := .command) hvalid
    have harrive := arriveArm_of_walk hw hs hl
    obtain ⟨hrest, hring, hsch, hmku, hgrows, hadded, harmed, htotal, -, hpresent, hflag, -⟩ := ho
    rw [offerEntries_eq] at hrest hring hsch hmku hgrows hadded harmed hpresent hflag
    rw [hstatus] at harrive
    refine ⟨_, (offerEntries .command (w.toNat :: rest) s).2.armed,
      (offerEntries .command (w.toNat :: rest) s).2.skipped, rfl, harmed, ?_, hlen, exec_arm ht harrive,
      outsideContexts_of hrest hring, hsch, hmku, hgrows, hadded, hpresent, hflag⟩
    exact htotal.trans (Nat.zero_add _)
  · have hskip : skipReason s.cx.set w.toNat = none := by
      unfold skipReason
      rw [habsent]
      exact if_neg (Nat.not_le.2 hroom)
    refine exec_arm_single (n := ⟨1, 0, none⟩) ht hw hs hd hlink ?_ rfl (by decide)
    rw [offerEntry_of_armed (r := (s, ArmCount.zero)) hskip hd, armEntry, newContext_eq_joined]
    rfl
  · have hskip : skipReason s.cx.set w.toNat = some .duplicate :=
      if_pos (Option.isSome_iff_ne_none.2 hdup)
    exact exec_arm_single (n := ⟨0, 1, some .duplicate⟩) ht hw hs hd hlink
      (offerEntry_of_skip (r := (s, ArmCount.zero)) hskip) rfl (by decide)
  · have hskip : skipReason s.cx.set w.toNat = some .setFull := by
      unfold skipReason
      rw [habsent]
      exact if_pos hfull
    exact exec_arm_single (n := ⟨0, 1, some .setFull⟩) ht hw hs hd hlink
      (offerEntry_of_skip (r := (s, ArmCount.zero)) hskip) rfl (by decide)

end Sys2Proof.SchedulerCommands

namespace Sys2Proof.FrameRun

open Sys2Proof.Machine Sys2Proof.Safety Sys2Proof.EventDescriptors Sys2Proof.OutputLimits
open Sys2Proof.StepInvariants Sys2Proof.FlagsAndWatch Sys2Proof.FrameEvents
open Sys2Proof.ContextRows Sys2Proof.ChainRows Sys2Proof.SchedulerCommands

/-! ### What an item leaves to be taken -/

/-- The notice and markers of a starting life. -/
def IsStart (x : Item) : Prop := ∃ i late, x = .lifeStarts i late

theorem waitTests_event (f : FrameInfo) (c : Ctx) :
    (waitTests f c).2 = .start false ∨ (waitTests f c).2 = .start true ∨ (waitTests f c).2 = .nothing := by
  unfold waitTests
  split
  · exact .inl rfl
  · split
    · exact .inr (.inl rfl)
    · exact .inr (.inr rfl)

/-- A context just armed waits on or starts a life. -/
theorem takeFrame_newContext (f : FrameInfo) (i : Nat) (d : Desc) (n : Nat) (source : ArmSource) :
    (takeFrame f (newContext i d n source)).2 = .nothing ∨
      (takeFrame f (newContext i d n source)).2 = .start false := by
  have hlate := takeFrame_newContext_event f i d n source
  rw [takeFrame_wait rfl] at hlate ⊢
  rcases waitTests_event f _ with h | h | h
  · exact .inr h
  · exact absurd h hlate
  · exact .inl h

/-- The items of one context just armed: its start, if that shows. -/
theorem itemsOf_newContext (f : FrameInfo) (i : Nat) (d : Desc) (n : Nat) (source : ArmSource) (s : State) :
    itemsOf s (takeFrame f (newContext i d n source)) = [] ∨
      ∃ j late, itemsOf s (takeFrame f (newContext i d n source)) = [.lifeStarts j late] := by
  unfold itemsOf
  rcases takeFrame_newContext f i d n source with h | h <;> rw [h]
  · exact .inl rfl
  · dsimp only
    split
    · exact .inr ⟨_, _, rfl⟩
    · exact .inl rfl

theorem startNowOrLater_items (l : List Item) (s : State) (hl : l = [] ∨ ∃ j late, l = [.lifeStarts j late]) :
    (startNowOrLater l s).2 = [] ∨ ∃ j late, (startNowOrLater l s).2 = [.lifeStarts j late] := by
  rcases hl with rfl | ⟨j, late, rfl⟩
  · exact .inl rfl
  · unfold startNowOrLater
    dsimp only
    split
    · exact .inl rfl
    · exact .inr ⟨j, late, rfl⟩

/-- Each entry of a ring read adds one start at most. -/
theorem offerRingEntry_items (f : FrameInfo) (r : State × List Item) (i : Nat) :
    ∃ l, (offerRingEntry f r i).2 = r.2 ++ l ∧ l.length ≤ 1 ∧ ∀ x ∈ l, IsStart x := by
  have hone (l : List Item) (s : State) (hl : l = [] ∨ ∃ j late, l = [.lifeStarts j late]) :
      (startNowOrLater l s).2.length ≤ 1 ∧ ∀ x ∈ (startNowOrLater l s).2, IsStart x := by
    rcases startNowOrLater_items l s hl with h | ⟨j, late, h⟩ <;> rw [h]
    · exact ⟨Nat.zero_le 1, fun _ hx => nomatch hx⟩
    · exact ⟨Nat.le_refl 1, fun x hx => ⟨j, late, List.mem_singleton.1 hx⟩⟩
  unfold offerRingEntry
  dsimp only
  refine ⟨_, rfl, hone _ _ ?_⟩
  rcases ringEntry_cases f i r.1 with ⟨reason, -, h⟩ | ⟨-, -, h⟩ | ⟨d, c, n, t, -, -, -, rfl, -, h⟩ <;> rw [h]
  · exact .inl rfl
  · exact .inl rfl
  · exact itemsOf_newContext f i d n .ring t

theorem foldl_offerRingEntry_items (f : FrameInfo) (l : List Nat) (r : State × List Item) :
    ∃ m, (l.foldl (offerRingEntry f) r).2 = r.2 ++ m ∧ m.length ≤ l.length ∧ ∀ x ∈ m, IsStart x := by
  induction l generalizing r with
  | nil => exact ⟨[], (List.append_nil _).symm, Nat.le_refl 0, fun _ hx => nomatch hx⟩
  | cons i l ih =>
    obtain ⟨a, ha, halen, hastart⟩ := offerRingEntry_items f r i
    obtain ⟨b, hb, hblen, hbstart⟩ := ih (offerRingEntry f r i)
    refine ⟨a ++ b, by rw [List.foldl_cons, hb, ha, List.append_assoc], ?_, fun x hx => ?_⟩
    · rw [List.length_append, List.length_cons]
      omega
    · exact (List.mem_append.1 hx).elim (hastart x) (hbstart x)

/-- A ring read leaves starts alone, one for each entry of its walk at most. -/
theorem ringReadNow_items (f : FrameInfo) (s : State) :
    (ringReadNow f s).2.length ≤ 16 ∧ ∀ x ∈ (ringReadNow f s).2, IsStart x := by
  have hnone : ([] : List Item).length ≤ 16 ∧ ∀ x ∈ ([] : List Item), IsStart x :=
    ⟨Nat.zero_le _, fun _ hx => nomatch hx⟩
  have harm (head : Nat) (t : State) : (armRing f head t).2.length ≤ 16 ∧ ∀ x ∈ (armRing f head t).2, IsStart x := by
    unfold armRing
    split
    · next entries hwalk =>
      obtain ⟨m, hm, hlen, hstart⟩ := foldl_offerRingEntry_items f entries (t, [])
      obtain ⟨-, hlimit, -⟩ := walkFrom_ok hwalk
      rw [hm, List.nil_append]
      exact ⟨hlen.trans hlimit, hstart⟩
    · exact hnone
    · exact hnone
  unfold ringReadNow
  split
  · split
    · exact hnone
    · exact harm _ _
  · exact hnone

/-- The end of a life leaves its AFTER chain at most. -/
theorem lifeEndsNow_items (i : Nat) (s : State) :
    (lifeEndsNow i s).2 = [] ∨ ∃ c, findCtx s.cx.set i = some c ∧ linksAfter c.snap = true ∧
      (lifeEndsNow i s).2 = [.afterLink (linkIndex c.index c.snap.next)] := by
  unfold lifeEndsNow
  split
  · exact .inl rfl
  · next c hc =>
    split
    · exact .inl rfl
    · unfold chainOf
      split
      · next h =>
        simp only [Bool.and_eq_true] at h
        exact .inr ⟨c, hc, h.2, rfl⟩
      · exact .inl rfl

/-- What an item leaves are starts and AFTER chains. -/
theorem doItem_items (f : FrameInfo) (it : Item) (s : State) :
    ∀ x ∈ (doItem f it s).2, IsStart x ∨ ∃ head, x = .afterLink head := by
  intro x hx
  cases it with
  | ringRead => exact .inl ((ringReadNow_items f s).2 x hx)
  | lifeEnds i =>
    rcases lifeEndsNow_items i s with h | ⟨c, -, -, h⟩
    · rw [doItem, h] at hx
      cases hx
    · rw [doItem, h] at hx
      exact .inr ⟨_, List.mem_singleton.1 hx⟩
  | cycleMarks => cases hx
  | lifeStarts i late => cases hx
  | afterLink head => cases hx
  | limits l => cases hx
  | clipMarks c => cases hx

/-! ### Every item is taken -/

/-- The number of items that an item stands for, those that it can leave included. -/
def weight (it : Item) : Nat :=
  match it with
  | .ringRead => 17
  | .lifeEnds _ => 2
  | .cycleMarks => 1
  | .lifeStarts _ _ => 1
  | .afterLink _ => 1
  | .limits _ => 1
  | .clipMarks _ => 1

def load (items : List Item) : Nat := (items.map weight).sum

theorem load_cons (it : Item) (items : List Item) : load (it :: items) = weight it + load items := by
  rw [load, List.map_cons, List.sum_cons]
  rfl

theorem load_append (l m : List Item) : load (l ++ m) = load l + load m := by
  rw [load, List.map_append, List.sum_append]
  rfl

theorem load_perm {l m : List Item} (h : l.Perm m) : load l = load m := (h.map weight).sum_eq

theorem one_le_weight (it : Item) : 1 ≤ weight it := by
  unfold weight
  split <;> decide

theorem load_starts (l : List Item) (h : ∀ x ∈ l, IsStart x) : load l = l.length := by
  induction l with
  | nil => rfl
  | cons x l ih =>
    obtain ⟨i, late, hx⟩ := h x (List.mem_cons_self ..)
    rw [load_cons, ih fun y hy => h y (List.mem_cons_of_mem _ hy), hx, List.length_cons, Nat.add_comm]
    rfl

/-- Taking an item lowers the load. -/
theorem doItem_load (f : FrameInfo) (it : Item) (s : State) : load (doItem f it s).2 + 1 ≤ weight it := by
  cases it with
  | ringRead =>
    obtain ⟨hlen, hstart⟩ := ringReadNow_items f s
    rw [doItem, load_starts _ hstart]
    exact Nat.succ_le_succ hlen
  | lifeEnds i =>
    rcases lifeEndsNow_items i s with h | ⟨c, -, -, h⟩ <;> rw [doItem, h]
    · exact Nat.le_succ 1
    · exact Nat.le_refl 2
  | cycleMarks => exact Nat.le_refl 1
  | lifeStarts i late => exact Nat.le_refl 1
  | afterLink head => exact Nat.le_refl 1
  | limits l => exact Nat.le_refl 1
  | clipMarks c => exact Nat.le_refl 1

theorem load_le_itemBound (items : List Item) (h : items.count .ringRead ≤ 1) : load items ≤ itemBound items := by
  have hbound : load items ≤ 2 * items.length + 15 * items.count .ringRead := by
    clear h
    induction items with
    | nil => exact Nat.le_refl 0
    | cons it items ih =>
      have hone : weight it ≤ 2 + 15 * (if it = .ringRead then 1 else 0) := by cases it <;> simp [weight]
      rw [load_cons, List.length_cons, List.count_cons]
      simp only [beq_iff_eq]
      omega
  unfold itemBound Config.walkLimit
  omega

/-- What holds of the items that wait and the state through the free order of a frame's items. -/
structure RunInvariant (f : FrameInfo) (J : List Item → State → Prop) : Prop where
  perm : ∀ {l m : List Item} {s : State}, l.Perm m → J l s → J m s
  choice : ∀ (n : Nat) (l : List Item) (s : State), J l s → J l (choose n s).2
  item : ∀ (it : Item) (l : List Item) (s : State), J (it :: l) s → J (l ++ (doItem f it s).2) (doItem f it s).1

theorem RunInvariant.runItems {f : FrameInfo} {J : List Item → State → Prop} (hJ : RunInvariant f J) (n : Nat)
    (items : List Item) (s : State) (hload : load items ≤ n) (h : J items s) : J [] (runItems f n items s) := by
  induction n generalizing items s with
  | zero =>
    cases items with
    | nil => exact h
    | cons it items =>
      have hone := one_le_weight it
      rw [load_cons] at hload
      omega
  | succ n ih =>
    match items with
    | [] => exact h
    | [x] =>
      have hx := doItem_load f x s
      refine ih _ _ ?_ (hJ.item x [] s h)
      rw [load_cons] at hload
      exact Nat.le_of_succ_le_succ ((hx.trans (Nat.le_add_right _ _)).trans hload)
    | x :: y :: rest =>
      have hi : (choose (rest.length + 2) s).1 < (x :: y :: rest).length := Nat.mod_lt _ (Nat.succ_pos _)
      have hperm := List.getElem_cons_eraseIdx_perm hi
      have hget : (x :: y :: rest).getD (choose (rest.length + 2) s).1 x =
          (x :: y :: rest)[(choose (rest.length + 2) s).1] :=
        List.getD_eq_getElem _ _ hi
      have hchosen := hJ.item _ _ _ (hJ.perm hperm.symm (hJ.choice (rest.length + 2) _ _ h))
      have hx := doItem_load f (x :: y :: rest)[(choose (rest.length + 2) s).1] (choose (rest.length + 2) s).2
      rw [← load_perm hperm, load_cons] at hload
      unfold Machine.runItems
      dsimp only
      rw [hget]
      refine ih _ _ ?_ hchosen
      rw [load_append]
      omega

/-- Every item of a frame is taken in the end. -/
theorem RunInvariant.runAll {f : FrameInfo} {J : List Item → State → Prop} (hJ : RunInvariant f J)
    {items : List Item} {s : State} (hring : items.count .ringRead ≤ 1) (h : J items s) :
    J [] (runAll f items s) :=
  hJ.runItems _ items s (load_le_itemBound items hring) h

/-! ### One item's turn among the others -/

/-- The item waits once, among others of a kind. -/
def Once (x : Item) (Q : Item → Prop) (l : List Item) : Prop := ∃ m, l.Perm (x :: m) ∧ ∀ y ∈ m, Q y

/-- What the items of a kind keep. -/
structure ItemsKeep (f : FrameInfo) (Q : Item → Prop) (P : State → Prop) : Prop where
  choice : ∀ n s, P s → P (choose n s).2
  item : ∀ it s, Q it → P s → P (doItem f it s).1
  left : ∀ it s, Q it → P s → ∀ x ∈ (doItem f it s).2, Q x

theorem ItemsKeep.runAll {f : FrameInfo} {Q : Item → Prop} {P : State → Prop} (h : ItemsKeep f Q P)
    {items : List Item} {s : State} (hring : items.count .ringRead ≤ 1) (hQ : ∀ x ∈ items, Q x) (hs : P s) :
    P (runAll f items s) := by
  have hJ : RunInvariant f (fun l t => (∀ x ∈ l, Q x) ∧ P t) :=
    { perm := fun hp ⟨hl, ht⟩ => ⟨fun x hx => hl x (hp.mem_iff.2 hx), ht⟩
      choice := fun n l t ⟨hl, ht⟩ => ⟨hl, h.choice n t ht⟩
      item := fun it l t ⟨hl, ht⟩ => by
        have hit := hl it (List.mem_cons_self ..)
        refine ⟨fun x hx => ?_, h.item it t hit ht⟩
        exact (List.mem_append.1 hx).elim (fun hx => hl x (List.mem_cons_of_mem _ hx)) (h.left it t hit ht x) }
  exact (hJ.runAll hring ⟨hQ, hs⟩).2

/-- One item's turn comes among others: what holds before it, and what it leaves behind. -/
theorem runAll_once {f : FrameInfo} {x : Item} {Q Q' : Item → Prop} {P P' : State → Prop}
    (hbefore : ItemsKeep f Q P) (hafter : ItemsKeep f Q' P') (hQ : ∀ y, Q y → Q' y)
    (hturn : ∀ s, P s → P' (doItem f x s).1) (hleft : ∀ s, P s → ∀ y ∈ (doItem f x s).2, Q' y)
    {items : List Item} {s : State} (hring : items.count .ringRead ≤ 1) (honce : Once x Q items) (hs : P s) :
    P' (runAll f items s) := by
  have hJ : RunInvariant f (fun l t => (Once x Q l ∧ P t) ∨ ((∀ y ∈ l, Q' y) ∧ P' t)) :=
    { perm := fun hp h => h.imp (fun ⟨⟨m, hm, hQm⟩, ht⟩ => ⟨⟨m, hp.symm.trans hm, hQm⟩, ht⟩)
        (fun ⟨hl, ht⟩ => ⟨fun y hy => hl y (hp.mem_iff.2 hy), ht⟩)
      choice := fun n l t h => h.imp (fun ⟨hl, ht⟩ => ⟨hl, hbefore.choice n t ht⟩)
        (fun ⟨hl, ht⟩ => ⟨hl, hafter.choice n t ht⟩)
      item := fun it l t h => by
        rcases h with ⟨⟨m, hm, hQm⟩, ht⟩ | ⟨hl, ht⟩
        · by_cases hit : it = x
          · subst hit
            have hlm := (List.perm_cons it).1 hm
            refine .inr ⟨fun y hy => ?_, hturn t ht⟩
            exact (List.mem_append.1 hy).elim (fun hy => hQ y (hQm y (hlm.mem_iff.1 hy))) (hleft t ht y)
          · have hmem : it ∈ m := by
              have := hm.mem_iff.1 (List.mem_cons_self ..)
              exact (List.mem_cons.1 this).resolve_left hit
            have hrest : l.Perm (x :: m.erase it) := by
              refine (List.perm_cons it).1 (hm.trans ?_)
              exact ((List.perm_cons_erase hmem).cons x).trans (.swap it x _)
            refine .inl ⟨⟨m.erase it ++ (doItem f it t).2, hrest.append_right _, fun y hy => ?_⟩,
              hbefore.item it t (hQm it hmem) ht⟩
            exact (List.mem_append.1 hy).elim (fun hy => hQm y (List.mem_of_mem_erase hy))
              (hbefore.left it t (hQm it hmem) ht y)
        · have hit := hl it (List.mem_cons_self ..)
          refine .inr ⟨fun y hy => ?_, hafter.item it t hit ht⟩
          exact (List.mem_append.1 hy).elim (fun hy => hl y (List.mem_cons_of_mem _ hy)) (hafter.left it t hit ht y) }
  rcases hJ.runAll hring (.inl ⟨honce, hs⟩) with ⟨⟨m, hm, -⟩, -⟩ | ⟨-, h⟩
  · cases hm.length_eq
  · exact h

end Sys2Proof.FrameRun

namespace Sys2Proof.FrameEffects

open Sys2Proof.Machine Sys2Proof.Safety Sys2Proof.EventDescriptors Sys2Proof.OutputLimits
open Sys2Proof.StepInvariants Sys2Proof.FlagsAndWatch Sys2Proof.FrameEvents
open Sys2Proof.ContextRows Sys2Proof.ChainRows Sys2Proof.SchedulerCommands Sys2Proof.FrameRun

/-! ### What the firing of markers reaches -/

/-- No ARMED marker can stop the plan. -/
def NoStop (s : State) : Prop :=
  ∀ k, k < 4 → (s.mku.markers.get k).state = .armed → (s.mku.markers.get k).actions.getLsbD 1 = false

theorem NoStop.of_spent {s t : State} (hs : NoStop s)
    (h : ∀ k, Spent (s.mku.markers.get k) (t.mku.markers.get k)) : NoStop t := by
  intro k hk harmed
  rcases h k with hsame | ⟨-, hspent⟩
  · rw [hsame] at harmed ⊢
    exact hs k hk harmed
  · rw [hspent] at harmed
    cases harmed

theorem NoStop.of_same {s t : State} (hs : NoStop s) (h : t.mku = s.mku) : NoStop t := by
  unfold NoStop
  rwa [h]

/-- The firing of a marker without STOP reaches neither Scheduler nor contexts. -/
theorem fire_of_no_stop {k : Nat} {s : State} (h : (s.mku.markers.get k).actions.getLsbD 1 = false) :
    (fire k s).cx = s.cx ∧ (fire k s).sch = s.sch := by
  have hactions : fireActions k s = raiseIf ((s.mku.markers.get k).actions.getLsbD 2)
      (.mark k (if (s.mku.markers.get k).actions.getLsbD 0 then requestPulse (s.mku.markers.get k).width s
        else s).ant.cycle (angleNow (if (s.mku.markers.get k).actions.getLsbD 0 then
          requestPulse (s.mku.markers.get k).width s else s)))
      (if (s.mku.markers.get k).actions.getLsbD 0 then requestPulse (s.mku.markers.get k).width s else s) := by
    unfold fireActions
    dsimp only
    rw [h]
    rfl
  have hpulse : ∀ b : Bool, (if b = true then requestPulse (s.mku.markers.get k).width s else s).cx = s.cx ∧
      (if b = true then requestPulse (s.mku.markers.get k).width s else s).sch = s.sch := by
    intro b
    cases b <;> exact ⟨rfl, rfl⟩
  obtain ⟨hcx, hsch⟩ := hpulse ((s.mku.markers.get k).actions.getLsbD 0)
  rw [fire_eq]
  refine ⟨?_, ?_⟩
  · show (fireActions k s).cx = s.cx
    rw [hactions, (raiseIf_only _ _ _).cx, hcx]
  · show (fireActions k s).sch = s.sch
    rw [hactions, (raiseIf_only _ _ _).sch, hsch]

theorem markers_get_set_other (m : Markers) {j k : Nat} (x : Marker) (hk : k < 4) (h : j ≠ k) :
    (m.set j x).get k = m.get k := by
  rw [markers_get_set, if_neg (by omega)]

theorem markers_get_set_self (m : Markers) {k : Nat} (x : Marker) (hk : k < 4) : (m.set k x).get k = x := by
  rw [markers_get_set, if_pos ⟨hk, .inl rfl⟩]

/-- Reports and the firing of markers whose condition is among `H` alone. -/
structure FiresOnly (H : MarkerCond → Prop) (s t : State) : Prop where
  marked : MarkedOnly s t
  ring : t.ring = s.ring
  spent : ∀ k, Spent (s.mku.markers.get k) (t.mku.markers.get k)
  stand : ∀ k, k < 4 → ¬H (s.mku.markers.get k).cond → t.mku.markers.get k = s.mku.markers.get k
  quiet : NoStop s → t.cx = s.cx ∧ t.sch = s.sch

namespace FiresOnly

variable {H : MarkerCond → Prop}

theorem ofReports {s t : State} (h : ReportsOnly s t) : FiresOnly H s t where
  marked := .ofReports h
  ring := h.ring
  spent k := .inl (by rw [h.mku])
  stand k _ _ := by rw [h.mku]
  quiet _ := ⟨h.cx, h.sch⟩

theorem refl (s : State) : FiresOnly H s s := ofReports (.refl s)

theorem trans {s t u : State} (h : FiresOnly H s t) (k : FiresOnly H t u) : FiresOnly H s u where
  marked := h.marked.trans k.marked
  ring := k.ring.trans h.ring
  spent n := (h.spent n).trans (k.spent n)
  stand n hn hcond := by
    have hsame := h.stand n hn hcond
    exact (k.stand n hn (by rwa [hsame])).trans hsame
  quiet hs := by
    obtain ⟨hcx, hsch⟩ := h.quiet hs
    obtain ⟨kcx, ksch⟩ := k.quiet (hs.of_spent h.spent)
    exact ⟨kcx.trans hcx, ksch.trans hsch⟩

theorem ite {c : Prop} [Decidable c] {s t u : State} (ht : FiresOnly H s t) (hu : FiresOnly H s u) :
    FiresOnly H s (if c then t else u) := by
  split
  · exact ht
  · exact hu

theorem fireIfHit {hit : MarkerCond → Bool} (hH : ∀ c, hit c = true → H c) {k : Nat} (hk : k < 4) (s : State) :
    FiresOnly H s (fireIfHit hit k s) := by
  unfold Machine.fireIfHit
  split
  · next h =>
    simp only [markerHit, Bool.and_eq_true, beq_iff_eq] at h
    obtain ⟨harmed, hhit⟩ := h
    refine ⟨.fire k s, (fire_stop k s).ring, (Moved.fire (F := fun _ => True) trivial harmed).marker,
      fun n hn hcond => ?_, fun hs => fire_of_no_stop (hs k hk harmed)⟩
    rw [fire_mku]
    refine markers_get_set_other _ _ hn ?_
    rintro rfl
    exact hcond (hH _ hhit)
  · exact refl s

theorem fireMarkers {hit : MarkerCond → Bool} (hH : ∀ c, hit c = true → H c) (s : State) :
    FiresOnly H s (fireMarkers hit s) :=
  (fireIfHit hH (by decide) s).trans <| (fireIfHit hH (by decide) _).trans <|
    (fireIfHit hH (by decide) _).trans (fireIfHit hH (by decide) _)

theorem fireWithNotice {hit : MarkerCond → Bool} (hH : ∀ c, hit c = true → H c) (place : Nat) (n : Notice)
    (s : State) : FiresOnly H s (fireWithNotice hit place n s) := by
  have hone {k : Nat} (hk : k < 4) (t : State) :
      FiresOnly H t (Machine.fireIfHit hit k (raiseIf (place == k) n t)) :=
    (ofReports (raiseIf_only _ n t)).trans (fireIfHit hH hk _)
  exact (hone (by decide) s).trans <| (hone (by decide) _).trans <| (hone (by decide) _).trans <|
    (hone (by decide) _).trans (ofReports (raiseIf_only _ n _))

theorem noticeAndFire {hit : MarkerCond → Bool} (hH : ∀ c, hit c = true → H c) (c : Bool) (n : Notice) (s : State) :
    FiresOnly H s (noticeAndFire c n hit s) :=
  ite ((ofReports (choose_only 5 s)).trans (fireWithNotice hH _ n _))
    ((ofReports (raiseIf_only c n s)).trans (fireMarkers hH _))

theorem lifeStartsNow (i : Nat) (late : Bool) (s : State) :
    FiresOnly (fun c => c = .descStart i) s (lifeStartsNow i late s) := by
  unfold Machine.lifeStartsNow
  split
  · exact refl s
  · exact noticeAndFire (fun c hc => beq_iff_eq.1 hc) _ _ s

end FiresOnly

theorem consistencyFault_eq (c : FaultCause) (s : State) : consistencyFault c s = chainFault c s := rfl

/-! ### What every item keeps -/

/-- Markers fire once and on a condition among `H` alone, and every context whose index is not among `D` stays in
the set, marked HALT at most, and that only where some ARMED marker has a STOP. -/
structure Kept (H : MarkerCond → Prop) (D : Nat → Prop) (s t : State) : Prop where
  spent : ∀ k, Spent (s.mku.markers.get k) (t.mku.markers.get k)
  stand : ∀ k, k < 4 → ¬H (s.mku.markers.get k).cond → t.mku.markers.get k = s.mku.markers.get k
  found : ∀ i c, ¬D i → findCtx s.cx.set i = some c →
    findCtx t.cx.set i = some c ∨
      (¬NoStop s ∧ c.mark = .none ∧ findCtx t.cx.set i = some { c with mark := .halt })

namespace Kept

variable {H : MarkerCond → Prop} {D : Nat → Prop}

theorem trans {s t u : State} (h : Kept H D s t) (k : Kept H D t u) : Kept H D s u where
  spent n := (h.spent n).trans (k.spent n)
  stand n hn hcond := by
    have hsame := h.stand n hn hcond
    exact (k.stand n hn (by rwa [hsame])).trans hsame
  found i c hi hc := by
    rcases h.found i c hi hc with ht | ⟨hstop, hmark, ht⟩
    · rcases k.found i c hi ht with hu | ⟨hstop, hmark, hu⟩
      · exact .inl hu
      · exact .inr ⟨fun hs => hstop (hs.of_spent h.spent), hmark, hu⟩
    · rcases k.found i _ hi ht with hu | ⟨-, hmark', -⟩
      · exact .inr ⟨hstop, hmark, hu⟩
      · cases hmark'

theorem ofFires {s t : State} (h : FiresOnly H s t) : Kept H D s t where
  spent := h.spent
  stand := h.stand
  found i c _ hc := by
    by_cases hs : NoStop s
    · obtain ⟨hcx, -⟩ := h.quiet hs
      exact .inl (by rwa [hcx])
    · exact (h.marked.found hc).imp id fun ⟨hmark, ht⟩ => ⟨hs, hmark, ht⟩

theorem mono {H' : MarkerCond → Prop} {D' : Nat → Prop} {s t : State} (hH : ∀ c, H c → H' c) (hD : ∀ i, D i → D' i)
    (h : Kept H D s t) : Kept H' D' s t where
  spent := h.spent
  stand k hk hcond := h.stand k hk fun hc => hcond (hH _ hc)
  found i c hi hc := h.found i c (fun hd => hi (hD i hd)) hc

/-- The markers are the same, and no context but those among `D` has moved. -/
theorem ofFound {s t : State} (hmku : t.mku = s.mku)
    (h : ∀ i c, ¬D i → findCtx s.cx.set i = some c → findCtx t.cx.set i = some c) : Kept H D s t where
  spent k := .inl (by rw [hmku])
  stand k _ _ := by rw [hmku]
  found i c hi hc := .inl (h i c hi hc)

theorem ofReports {s t : State} (h : ReportsOnly s t) : Kept H D s t :=
  ofFound h.mku fun i c _ hc => by rwa [h.cx]

theorem refl (s : State) : Kept H D s s := ofReports (.refl s)

/-- A context joins the set behind those that it holds. -/
theorem append (s : State) (c : Ctx) (n : Nat) :
    Kept H D s (s.withCx { set := s.cx.set ++ [c], activation := n }) :=
  ofFound rfl fun i e _ he => by
    unfold findCtx at *
    rw [State.withCx_cx, List.find?_append, he, Option.some_or]

theorem consistencyFault (c : FaultCause) (s : State) : Kept H D s (consistencyFault c s) := by
  rw [consistencyFault_eq, chainFault]
  refine trans ?_ (ofReports (raise_only _ _))
  exact ofFound rfl fun _ _ _ he => he

theorem offerEntry (source : ArmSource) (r : State × ArmCount) (i : Nat) : Kept H D r.1 (offerEntry source r i).1 := by
  unfold Machine.offerEntry
  split
  · exact (ofReports (setFlag_only _ _)).trans (ofReports (raise_only _ _))
  · split
    · exact append _ _ _
    · exact refl _

theorem armChain (source : ArmSource) (head : Nat) (s : State) : Kept H D s (armChain source head s) := by
  have hfold (l : List Nat) : ∀ r : State × ArmCount, Kept H D r.1 (l.foldl (Machine.offerEntry source) r).1 := by
    induction l with
    | nil => exact fun r => refl r.1
    | cons i l ih => exact fun r => (offerEntry source r i).trans (ih _)
  unfold Machine.armChain
  split
  · exact hfold _ (s, ArmCount.zero)
  · exact consistencyFault _ s
  · exact consistencyFault _ s

theorem armAfterLink (head : Nat) (s : State) : Kept H D s (armAfterLink head s) := by
  unfold Machine.armAfterLink
  split
  · exact refl s
  · exact armChain _ _ s

theorem startNowOrLater (hH : ∀ i, H (.descStart i)) (items : List Item) (s : State) :
    Kept H D s (startNowOrLater items s).1 := by
  unfold Machine.startNowOrLater
  split
  · split
    · exact (ofReports (chooseFirst_only s)).trans
        ((ofFires (D := D) (FiresOnly.lifeStartsNow _ _ _)).mono (fun c hc => by rw [hc]; exact hH _) fun _ hi => hi)
    · exact ofReports (chooseFirst_only s)
  · exact refl s

theorem offerRingEntry (hH : ∀ i, H (.descStart i)) (f : FrameInfo) (r : State × List Item) (i : Nat) :
    Kept H D r.1 (offerRingEntry f r i).1 := by
  unfold Machine.offerRingEntry
  dsimp only
  rcases ringEntry_cases f i r.1 with ⟨reason, -, h⟩ | ⟨-, -, h⟩ | ⟨d, c, n, t, -, -, -, -, rfl, h⟩ <;> rw [h]
  · exact ((ofReports (setFlag_only _ _)).trans (ofReports (raise_only _ _))).trans (startNowOrLater hH _ _)
  · exact startNowOrLater hH _ _
  · exact (append _ _ _).trans (startNowOrLater hH _ _)

theorem armRing (hH : ∀ i, H (.descStart i)) (f : FrameInfo) (head : Nat) (s : State) :
    Kept H D s (armRing f head s).1 := by
  have hfold (l : List Nat) : ∀ r : State × List Item, Kept H D r.1 (l.foldl (Machine.offerRingEntry f) r).1 := by
    induction l with
    | nil => exact fun r => refl r.1
    | cons i l ih => exact fun r => (offerRingEntry hH f r i).trans (ih _)
  unfold Machine.armRing
  split
  · exact hfold _ (s, [])
  · exact consistencyFault _ s
  · exact consistencyFault _ s

theorem emptyOnce (n : Nat) (slot : Slot) (s : State) : Kept H D s (emptyOnce n slot s) := by
  unfold Machine.emptyOnce
  split
  · exact ofFound rfl fun _ _ _ hc => hc
  · exact refl s

theorem ringReadNow (hH : ∀ i, H (.descStart i)) (f : FrameInfo) (s : State) : Kept H D s (ringReadNow f s).1 := by
  unfold Machine.ringReadNow
  split
  · split
    · exact refl s
    · exact (emptyOnce _ _ s).trans (armRing hH f _ _)
  · exact refl s

end Kept

theorem decideLife_snap {c c' : Ctx} (h : decideLife c = .goesOn c') : c'.snap = c.snap := by
  unfold decideLife at h
  dsimp only at h
  split at h
  · cases h
  split at h
  · cases h
  split at h
  · cases h
  split at h <;> cases h <;> rfl

/-- The end of a context: the set without it, then its notice and the firing of its markers. -/
theorem contextEnds_fires (c : Ctx) (aborted : Bool) (s : State) :
    FiresOnly (fun m => m = .descEnd c.index) (s.withCx { s.cx with set := removeCtx s.cx.set c.index })
      (contextEnds c aborted s) :=
  .ite (.ofReports (raiseIf_only _ _ _)) (.noticeAndFire (fun _ hm => beq_iff_eq.1 hm) _ _ _)

theorem Kept.lifeEndsNow (i : Nat) (s : State) :
    Kept (fun m => m = .descEnd i) (fun j => j = i) s (lifeEndsNow i s).1 := by
  unfold Machine.lifeEndsNow
  split
  · exact .refl s
  · next c hc =>
    have hindex := findCtx_index hc
    split
    · next c' hdecide =>
      refine .ofFound rfl fun j e hj he => ?_
      rw [State.withCx_cx, findCtx_replaceCtx_other ((decideLife_index hdecide).trans hindex) hj]
      exact he
    · next aborted _ =>
      have hfires := contextEnds_fires c aborted s
      rw [hindex] at hfires
      refine Kept.trans (.ofFound (t := s.withCx { s.cx with set := removeCtx s.cx.set i }) rfl fun j e hj he => ?_)
        (.ofFires hfires)
      rw [State.withCx_cx, findCtx_removeCtx, if_neg hj]
      exact he

/-- The conditions of the markers that an item fires; `cycle` is the cycle counter. -/
def Hits (cycle : Nat) (it : Item) (c : MarkerCond) : Prop :=
  match it with
  | .ringRead => ∃ i, c = .descStart i
  | .cycleMarks => c = .cycle cycle
  | .lifeStarts i _ => c = .descStart i
  | .lifeEnds i => c = .descEnd i
  | .afterLink _ => False
  | .limits _ => False
  | .clipMarks clipped => hitClip clipped c = true

theorem doItem_kept (f : FrameInfo) (it : Item) (s : State) :
    Kept (Hits s.ant.cycle it) (fun i => it = .lifeEnds i) s (doItem f it s).1 := by
  cases it with
  | ringRead => exact .ringReadNow (fun i => ⟨i, rfl⟩) f s
  | cycleMarks => exact .ofFires (.fireMarkers (fun _ hc => beq_iff_eq.1 hc) s)
  | lifeStarts i late => exact .ofFires (.lifeStartsNow i late s)
  | lifeEnds i => exact (Kept.lifeEndsNow i s).mono (fun _ hc => hc) fun j hj => by rw [hj]
  | afterLink head => exact .armAfterLink head s
  | limits l => exact .ofReports (limitFlags_only l s)
  | clipMarks clipped => exact .ofFires (.fireMarkers (fun _ hc => hc) s)

theorem NoStop.doItem {s : State} (h : NoStop s) (f : FrameInfo) (it : Item) : NoStop (doItem f it s).1 :=
  h.of_spent (doItem_kept f it s).spent

/-! ### Items that arm nothing, no STOP being armed -/

/-- The item arms nothing. -/
def ArmsNothing (it : Item) : Prop := it ≠ .ringRead ∧ ∀ head, it ≠ .afterLink head

/-- The set after the end of the life of the context of an index, a STOP aside. -/
def lifeEndedSet (i : Nat) (set : List Ctx) : List Ctx :=
  match findCtx set i with
  | none => set
  | some c =>
    match decideLife c with
    | .goesOn c' => replaceCtx set i c'
    | .ends _ => removeCtx set i

/-- The set after an item that arms nothing, a STOP aside. -/
def quietSet (it : Item) (set : List Ctx) : List Ctx :=
  match it with
  | .lifeEnds i => lifeEndedSet i set
  | _ => set

theorem lifeEndsNow_quiet (i : Nat) {s : State} (hs : NoStop s) :
    (lifeEndsNow i s).1.cx = { s.cx with set := lifeEndedSet i s.cx.set } ∧ (lifeEndsNow i s).1.sch = s.sch ∧
      (lifeEndsNow i s).1.ring = s.ring := by
  unfold lifeEndsNow lifeEndedSet
  cases hc : findCtx s.cx.set i with
  | none => exact ⟨rfl, rfl, rfl⟩
  | some c =>
    dsimp only
    cases hdecide : decideLife c with
    | goesOn c' => exact ⟨rfl, rfl, rfl⟩
    | ends aborted =>
      have hfires := contextEnds_fires c aborted s
      obtain ⟨hcx, hsch⟩ := hfires.quiet (hs.of_same rfl)
      rw [findCtx_index hc] at hcx
      exact ⟨hcx, hsch, hfires.ring⟩

/-- Scheduler and ring stand over an item that arms nothing, and the contexts but for the end of a life. -/
theorem doItem_quiet (f : FrameInfo) {it : Item} (hit : ArmsNothing it) {s : State} (hs : NoStop s) :
    (doItem f it s).1.cx = { s.cx with set := quietSet it s.cx.set } ∧ (doItem f it s).1.sch = s.sch ∧
      (doItem f it s).1.ring = s.ring := by
  have hfires {H : MarkerCond → Prop} {t : State} (h : FiresOnly H s t) :
      t.cx = s.cx ∧ t.sch = s.sch ∧ t.ring = s.ring := by
    obtain ⟨hcx, hsch⟩ := h.quiet hs
    exact ⟨hcx, hsch, h.ring⟩
  cases it with
  | ringRead => exact absurd rfl hit.1
  | afterLink head => exact absurd rfl (hit.2 head)
  | lifeEnds i => exact lifeEndsNow_quiet i hs
  | cycleMarks => exact hfires (.fireMarkers (fun _ hc => hc) s)
  | lifeStarts i late => exact hfires (.lifeStartsNow i late s)
  | limits l => exact hfires (H := fun _ => False) (.ofReports (limitFlags_only l s))
  | clipMarks clipped => exact hfires (.fireMarkers (fun _ hc => hc) s)

end Sys2Proof.FrameEffects

namespace Sys2Proof.FrameContexts

open Sys2Proof.Machine Sys2Proof.Safety Sys2Proof.EventDescriptors Sys2Proof.OutputLimits
open Sys2Proof.StepInvariants Sys2Proof.FlagsAndWatch Sys2Proof.FrameEvents
open Sys2Proof.ContextRows Sys2Proof.ChainRows Sys2Proof.SchedulerCommands Sys2Proof.FrameRun
open Sys2Proof.FrameEffects

/-! ### How one context takes a frame, in the words of the statements -/

theorem takeFrame_of_wait {c : Ctx} (f : FrameInfo) (h : c.life = .wait) : takeFrame f c = takeWait f c := by
  unfold takeFrame
  rw [h]

theorem takeFrame_of_rampIn {c : Ctx} (f : FrameInfo) (h : c.life = .rampIn) : takeFrame f c = takeRampIn c := by
  unfold takeFrame
  rw [h]

theorem takeFrame_of_hold {c : Ctx} (f : FrameInfo) (h : c.life = .hold) : takeFrame f c = takeHold f c := by
  unfold takeFrame
  rw [h]

theorem takeFrame_of_rampOut {c : Ctx} (f : FrameInfo) (h : c.life = .rampOut) : takeFrame f c = takeRampOut c := by
  unfold takeFrame
  rw [h]

theorem takeFrame_of_gap {c : Ctx} (f : FrameInfo) (h : c.life = .gap) : takeFrame f c = takeGap f c := by
  unfold takeFrame
  rw [h]

theorem waitTests_ctx (f : FrameInfo) (c : Ctx) (n : Nat) :
    (waitTests f { c with life := .wait, bounds := n }).1 = waited n (crosses f c.snap.alpha) c := by
  unfold waitTests waited
  dsimp only
  by_cases hcross : crosses f c.snap.alpha = true
  · rw [if_pos hcross, if_pos (.inl hcross)]
    exact startLife_eq_started _
  · rw [if_neg hcross]
    by_cases hn : 2 ≤ n
    · rw [if_pos hn, if_pos (.inr hn)]
      exact startLife_eq_started _
    · rw [if_neg hn, if_neg (not_or.2 ⟨hcross, hn⟩), neutral_eq]

theorem waitTests_not_lifeEnd (f : FrameInfo) (c : Ctx) : (waitTests f c).2 ≠ .lifeEnd := by
  rcases waitTests_event f c with h | h | h <;> rw [h] <;> exact nofun

theorem takeWait_eq (f : FrameInfo) {c : Ctx} (h : c.life = .wait) :
    takeWait f c = waitTests f { c with life := .wait, bounds := countedBounds f.boundary c.bounds } := by
  rw [← h]
  rfl

theorem takeGap_of_end {f : FrameInfo} {c : Ctx} (h : f.boundary = true ∧ c.snap.gap ≤ c.bounds + 1) :
    takeGap f c = waitTests f { c with life := .wait, bounds := 1 } := by
  unfold takeGap
  rw [if_pos h.1, if_pos h.2]

theorem takeGap_of_stay {f : FrameInfo} {c : Ctx} (h : ¬(f.boundary = true ∧ c.snap.gap ≤ c.bounds + 1)) :
    takeGap f c =
      ({ c with bounds := countedBounds f.boundary c.bounds, value := neutralOf c.snap.kind }, .nothing) := by
  unfold takeGap countedBounds
  rw [neutral_eq]
  by_cases hb : f.boundary = true
  · rw [if_pos hb, if_neg fun hgap => h ⟨hb, hgap⟩, if_pos hb]
  · rw [if_neg hb, if_neg hb]

theorem takeRampIn_of_end {c : Ctx} (hlife : c.life = .rampIn) (h : c.snap.rampIn ≤ c.stepCount + 1) :
    takeRampIn c =
      ({ c with life := .hold, value := frameValue c, stepCount := 0, bounds := 0, tone := toneNext c },
        .nothing) := by
  unfold takeRampIn frameValue
  rw [hlife]
  dsimp only
  rw [if_pos h, if_pos h]
  rfl

theorem takeRampIn_of_step {c : Ctx} (hlife : c.life = .rampIn) (h : ¬c.snap.rampIn ≤ c.stepCount + 1) :
    takeRampIn c =
      ({ c with value := frameValue c, stepCount := c.stepCount + 1, tone := toneNext c }, .nothing) := by
  unfold takeRampIn frameValue
  rw [hlife]
  dsimp only
  rw [if_neg h, if_neg h, ← hlife]
  rfl

theorem takeRampOut_eq {c : Ctx} (hlife : c.life = .rampOut) :
    takeRampOut c =
      ({ c with value := frameValue c, stepCount := c.stepCount + 1, tone := toneNext c },
        if c.snap.rampOut ≤ c.stepCount + 1 then .lifeEnd else .nothing) := by
  unfold takeRampOut frameValue
  rw [hlife]
  dsimp only
  split <;> (rw [neutral_eq, ← hlife]; rfl)

theorem flickerValue_eq (d : Desc) (h : Half) :
    flickerValue d h = if h = .high then 16384 + d.level / 2 else 16384 - d.level / 2 := by
  cases h <;> rfl

theorem otherHalf_eq (h : Half) : otherHalf h = if h = .high then .low else .high := by
  cases h <;> rfl

theorem holdFrame_eq {f : FrameInfo} {c : Ctx} (hlife : c.life = .hold) : holdFrame f c = heldOn f.boundary c := by
  have hvalue : frameValue c = if c.snap.kind = .flicker then flickerValue c.snap c.flickHalf else target c.snap := by
    unfold frameValue
    rw [hlife, flickerValue_eq]
    rfl
  unfold holdFrame heldOn flickerStep toneNext
  rw [hvalue]
  by_cases hkind : c.snap.kind = .flicker
  · by_cases hhalf : c.snap.half ≤ c.flickCount + 1 <;> simp [hkind, hhalf, otherHalf_eq, holdBounds]
  · simp [hkind, toneAfter, holdBounds]

theorem holdEnds_iff (f : FrameInfo) {c : Ctx} (hlife : c.life = .hold) :
    (crosses f c.snap.beta && decide (c.snap.hold ≤ (holdFrame f c).bounds)) = true ↔
      HoldOver f.boundary (crosses f) c := by
  rw [holdFrame_eq hlife, Bool.and_eq_true, decide_eq_true_eq]
  rfl

theorem takeHold_of_over {f : FrameInfo} {c : Ctx} (hlife : c.life = .hold) (h : HoldOver f.boundary (crosses f) c) :
    takeHold f c =
      if c.snap.kind = .flicker ∨ c.snap.rampOut = 0 then (heldOn f.boundary c, .lifeEnd)
      else ({ heldOn f.boundary c with life := .rampOut, rampStart := frameValue c, stepCount := 0 }, .nothing) := by
  unfold takeHold
  dsimp only
  rw [if_pos ((holdEnds_iff f hlife).2 h), holdFrame_eq hlife]
  rfl

theorem takeHold_of_stay {f : FrameInfo} {c : Ctx} (hlife : c.life = .hold)
    (h : ¬HoldOver f.boundary (crosses f) c) : takeHold f c = (heldOn f.boundary c, .nothing) := by
  unfold takeHold
  dsimp only
  rw [if_neg (mt (holdEnds_iff f hlife).1 h), holdFrame_eq hlife]

/-- A clause about another life state than the context's. -/
theorem otherLife {P : Prop} {c : Ctx} {a b : Life} (h : c.life = a) (hne : a ≠ b) : c.life = b → P :=
  fun h' => absurd (h.symm.trans h') hne

/-! ### The clauses of one life state -/

variable {b : Bool} {cr : Nat → Bool} {c d : Ctx}

theorem frameTaken_of_wait (h : c.life = .wait) (hd : d = waited (countedBounds b c.bounds) (cr c.snap.alpha) c) :
    FrameTaken b cr c d :=
  ⟨fun _ => hd, otherLife h (by decide), otherLife h (by decide),
    otherLife h (by decide), otherLife h (by decide)⟩

theorem frameTaken_of_gap (h : c.life = .gap)
    (hd : (b = true ∧ c.snap.gap ≤ c.bounds + 1 → d = waited 1 (cr c.snap.alpha) c) ∧
      (¬(b = true ∧ c.snap.gap ≤ c.bounds + 1) →
        d = { c with bounds := countedBounds b c.bounds, value := neutralOf c.snap.kind })) :
    FrameTaken b cr c d :=
  ⟨otherLife h (by decide), fun _ => hd, otherLife h (by decide),
    otherLife h (by decide), otherLife h (by decide)⟩

theorem frameTaken_of_rampIn (h : c.life = .rampIn)
    (hd : (c.snap.rampIn ≤ c.stepCount + 1 →
        d = { c with life := .hold, value := frameValue c, stepCount := 0, bounds := 0, tone := toneNext c }) ∧
      (c.stepCount + 1 < c.snap.rampIn →
        d = { c with value := frameValue c, stepCount := c.stepCount + 1, tone := toneNext c })) :
    FrameTaken b cr c d :=
  ⟨otherLife h (by decide), otherLife h (by decide), fun _ => hd,
    otherLife h (by decide), otherLife h (by decide)⟩

theorem frameTaken_of_rampOut (h : c.life = .rampOut)
    (hd : d = { c with value := frameValue c, stepCount := c.stepCount + 1, tone := toneNext c }) :
    FrameTaken b cr c d :=
  ⟨otherLife h (by decide), otherLife h (by decide), otherLife h (by decide),
    fun _ => hd, otherLife h (by decide)⟩

theorem frameTaken_of_hold (h : c.life = .hold)
    (hd : (HoldOver b cr c → d = { heldOn b c with life := .rampOut, rampStart := frameValue c, stepCount := 0 }) ∧
      (¬HoldOver b cr c → d = heldOn b c)) : FrameTaken b cr c d :=
  ⟨otherLife h (by decide), otherLife h (by decide), otherLife h (by decide),
    otherLife h (by decide), fun _ => hd⟩

/-- A frame that does not end the life of a context. -/
theorem takeFrame_of_stays {f : FrameInfo} {c : Ctx} (h : ¬LifeEnds f.boundary (crosses f) c) :
    (takeFrame f c).2 ≠ .lifeEnd ∧ FrameTaken f.boundary (crosses f) c (takeFrame f c).1 := by
  obtain ⟨hramp, hover⟩ := not_or.1 h
  cases hlife : c.life with
  | wait =>
    rw [takeFrame_of_wait f hlife, takeWait_eq f hlife]
    exact ⟨waitTests_not_lifeEnd f _, frameTaken_of_wait hlife (waitTests_ctx f c _)⟩
  | gap =>
    rw [takeFrame_of_gap f hlife]
    by_cases hend : f.boundary = true ∧ c.snap.gap ≤ c.bounds + 1
    · rw [takeGap_of_end hend]
      exact ⟨waitTests_not_lifeEnd f _,
        frameTaken_of_gap hlife ⟨fun _ => waitTests_ctx f c 1, fun hn => absurd hend hn⟩⟩
    · rw [takeGap_of_stay hend]
      exact ⟨nofun, frameTaken_of_gap hlife ⟨fun hy => absurd hy hend, fun _ => rfl⟩⟩
  | rampIn =>
    rw [takeFrame_of_rampIn f hlife]
    by_cases hend : c.snap.rampIn ≤ c.stepCount + 1
    · rw [takeRampIn_of_end hlife hend]
      exact ⟨nofun, frameTaken_of_rampIn hlife ⟨fun _ => rfl, fun hlt => absurd hend (Nat.not_le.2 hlt)⟩⟩
    · rw [takeRampIn_of_step hlife hend]
      exact ⟨nofun, frameTaken_of_rampIn hlife ⟨fun hle => absurd hle hend, fun _ => rfl⟩⟩
  | rampOut =>
    rw [takeFrame_of_rampOut f hlife, takeRampOut_eq hlife, if_neg fun hle => hramp ⟨hlife, hle⟩]
    exact ⟨nofun, frameTaken_of_rampOut hlife rfl⟩
  | hold =>
    rw [takeFrame_of_hold f hlife]
    by_cases hend : HoldOver f.boundary (crosses f) c
    · rw [takeHold_of_over hlife hend, if_neg fun hnone => hover ⟨hlife, hend, hnone⟩]
      exact ⟨nofun, frameTaken_of_hold hlife ⟨fun _ => rfl, fun hn => absurd hend hn⟩⟩
    · rw [takeHold_of_stay hlife hend]
      exact ⟨nofun, frameTaken_of_hold hlife ⟨fun hy => absurd hy hend, fun _ => rfl⟩⟩

/-- A frame that ends the life of a context: the context with its value, as the life's end is decided on it. -/
theorem takeFrame_of_lifeEnds {f : FrameInfo} {c : Ctx} (h : LifeEnds f.boundary (crosses f) c) :
    (takeFrame f c).2 = .lifeEnd ∧
      (c.life = .rampOut → (takeFrame f c).1 =
        { c with value := frameValue c, stepCount := c.stepCount + 1, tone := toneNext c }) ∧
      (c.life = .hold → (takeFrame f c).1 = heldOn f.boundary c) := by
  rcases h with ⟨hlife, hlast⟩ | ⟨hlife, hover, hnone⟩
  · rw [takeFrame_of_rampOut f hlife, takeRampOut_eq hlife, if_pos hlast]
    exact ⟨rfl, fun _ => rfl, otherLife hlife (by decide)⟩
  · rw [takeFrame_of_hold f hlife, takeHold_of_over hlife hover, if_pos hnone]
    exact ⟨rfl, otherLife hlife (by decide), fun _ => rfl⟩

theorem takeFrame_snap_mark (f : FrameInfo) (c : Ctx) :
    (takeFrame f c).1.snap = c.snap ∧ (takeFrame f c).1.mark = c.mark ∧ (takeFrame f c).1.lives = c.lives := by
  by_cases h : LifeEnds f.boundary (crosses f) c
  · obtain ⟨-, hramp, hhold⟩ := takeFrame_of_lifeEnds h
    rcases h with ⟨hlife, -⟩ | ⟨hlife, -⟩
    · rw [hramp hlife]
      exact ⟨rfl, rfl, rfl⟩
    · rw [hhold hlife]
      exact ⟨rfl, rfl, rfl⟩
  · have hwaited (n : Nat) (crossed : Bool) :
        (waited n crossed c).snap = c.snap ∧ (waited n crossed c).mark = c.mark ∧
          (waited n crossed c).lives = c.lives := by
      unfold waited
      split <;> exact ⟨rfl, rfl, rfl⟩
    obtain ⟨-, hwait, hgap, hrampIn, hrampOut, hhold⟩ := takeFrame_of_stays h
    cases hlife : c.life with
    | wait => rw [hwait hlife]; exact hwaited _ _
    | gap =>
      by_cases hend : f.boundary = true ∧ c.snap.gap ≤ c.bounds + 1
      · rw [(hgap hlife).1 hend]; exact hwaited _ _
      · rw [(hgap hlife).2 hend]; exact ⟨rfl, rfl, rfl⟩
    | rampIn =>
      by_cases hend : c.snap.rampIn ≤ c.stepCount + 1
      · rw [(hrampIn hlife).1 hend]; exact ⟨rfl, rfl, rfl⟩
      · rw [(hrampIn hlife).2 (Nat.not_le.1 hend)]; exact ⟨rfl, rfl, rfl⟩
    | rampOut => rw [hrampOut hlife]; exact ⟨rfl, rfl, rfl⟩
    | hold =>
      by_cases hend : HoldOver f.boundary (crosses f) c
      · rw [(hhold hlife).1 hend]; exact ⟨rfl, rfl, rfl⟩
      · rw [(hhold hlife).2 hend]; exact ⟨rfl, rfl, rfl⟩

/-- A context that goes on to a further life after the frame that ends one. -/
theorem lifeWentOn_of_further {f : FrameInfo} {c : Ctx} (h : LifeEnds f.boundary (crosses f) c)
    (hmark : c.mark = .none) (hlives : c.snap.repeats = 0 ∨ min (c.lives + 1) 255 ≠ c.snap.repeats) :
    ∃ d, LifeWentOn f.boundary c d ∧ decideLife (takeFrame f c).1 = .goesOn d := by
  obtain ⟨hsnap, hm, hl⟩ := takeFrame_snap_mark f c
  refine ⟨_, ?_, decideLife_of_further (hm.trans hmark) (by rwa [hsnap, hl])⟩
  obtain ⟨-, hramp, hhold⟩ := takeFrame_of_lifeEnds h
  refine ⟨fun hlife => ?_, fun hlife => ?_⟩
  · rw [hramp hlife]
  · rw [hhold hlife]
    rfl

end Sys2Proof.FrameContexts

namespace Sys2Proof.FrameParts

open Sys2Proof.Machine Sys2Proof.Safety Sys2Proof.EventDescriptors Sys2Proof.OutputLimits
open Sys2Proof.StepInvariants Sys2Proof.FlagsAndWatch Sys2Proof.FrameEvents
open Sys2Proof.ContextRows Sys2Proof.ChainRows Sys2Proof.SchedulerCommands Sys2Proof.FrameRun
open Sys2Proof.FrameEffects Sys2Proof.FrameContexts

/-! ### The tracker's share -/

/-- What the tracker hands on for a frame, and the state it leaves: `s` is the state after the arrival. -/
structure Tracked (f : FrameInfo) (s u : State) : Prop where
  only : ReportsOnly (s.withAnt u.ant) u
  rpq : u.rpq = s.rpq
  boundary : f.boundary = decide (u.ant.cycle ≠ s.ant.cycle)
  start : f.start = u.ant.start
  step : f.step = u.ant.step
  theta : f.theta = u.ant.thetaP.getD 0
  reverse : f.cls = .reversal ↔ Reversed s u
  flags : u.flags = (setFlagIf (f.cls == .reversal) .angleReverse s).flags

theorem succ_cycle_ne (n : Nat) : (n + 1) % 65536 ≠ n := by omega

theorem classify_cases (a b : Nat) :
    ((49152 ≤ a ∧ b < 16384) ∧ (classify a b).1 = .boundary) ∨
      (¬(49152 ≤ a ∧ b < 16384) ∧ a ≤ b ∧ (classify a b).1 = .advance) ∨
      (¬(49152 ≤ a ∧ b < 16384) ∧ b < a ∧ (classify a b).1 = .reversal) := by
  unfold classify
  by_cases h : 49152 ≤ a ∧ b < 16384
  · rw [if_pos h]
    exact .inl ⟨h, rfl⟩
  · rw [if_neg h]
    by_cases hab : a ≤ b
    · rw [if_pos hab]
      exact .inr (.inl ⟨h, hab, rfl⟩)
    · rw [if_neg hab]
      exact .inr (.inr ⟨h, Nat.not_le.1 hab, rfl⟩)

/-- The tracker's results for a frame, by how the frame is shown. -/
theorem track_cases (p : Shown) (a : Ant) :
    (∃ theta, track p a = establish theta a) ∨ (a.thetaP = none ∧ track p a = unestablish a) ∨
      ∃ prev theta good, a.thetaP = some prev ∧ track p a = trackFrom prev theta good a := by
  unfold track
  split
  · exact .inl ⟨_, rfl⟩
  · exact .inl ⟨_, rfl⟩
  · next h => exact .inr (.inr ⟨_, _, _, h, rfl⟩)
  · next h => exact .inr (.inl ⟨h, rfl⟩)
  · next h => exact .inr (.inr ⟨_, _, _, h, rfl⟩)

theorem tracked_trackFrame (p : Shown) (s : State) : Tracked (trackFrame p s).1 s (trackFrame p s).2 := by
  have honly := SampleComputation.trackFrame_only p s
  have hant : (trackFrame p s).2.ant = (track p s.ant).2 := honly.ant
  have hrpq : (trackFrame p s).2.rpq = s.rpq := by
    unfold trackFrame setFlagIf
    dsimp only
    split <;> rfl
  have hflags : (trackFrame p s).2.flags =
      (setFlagIf ((track p s.ant).1.cls == .reversal) .angleReverse s).flags := by
    unfold trackFrame setFlagIf
    dsimp only
    split <;> rfl
  have hfacts : (track p s.ant).1.boundary = decide ((track p s.ant).2.cycle ≠ s.ant.cycle) ∧
      (track p s.ant).1.start = (track p s.ant).2.start ∧ (track p s.ant).1.step = (track p s.ant).2.step ∧
      (track p s.ant).1.theta = (track p s.ant).2.thetaP.getD 0 ∧
      ((track p s.ant).1.cls = .reversal ↔
        ∃ a b, s.ant.thetaP = some a ∧ (track p s.ant).2.thetaP = some b ∧ (track p s.ant).2.start = a ∧ b < a ∧
          ¬(49152 ≤ a ∧ b < 16384)) := by
    rcases track_cases p s.ant with ⟨theta, h⟩ | ⟨hnone, h⟩ | ⟨prev, theta, good, hprev, h⟩ <;> rw [h]
    · refine ⟨(decide_eq_false fun hne => hne rfl).symm, rfl, rfl, rfl, nofun, ?_⟩
      rintro ⟨a, b, -, hb, ha, hlt, -⟩
      cases hb
      exact absurd (show theta = a from ha) (Nat.ne_of_lt hlt)
    · refine ⟨(decide_eq_false fun hne => hne rfl).symm, rfl, rfl, by rw [unestablish, hnone]; rfl, nofun, ?_⟩
      rintro ⟨a, b, ha, -⟩
      rw [hnone] at ha
      cases ha
    · have hcycle : (trackFrom prev theta good s.ant).2.cycle = cycleAfter (classify prev theta).1 s.ant.cycle := rfl
      have hcls : (trackFrom prev theta good s.ant).1.cls = (classify prev theta).1 := rfl
      have hrev : ((classify prev theta).1 = .reversal ↔
          ∃ a b, s.ant.thetaP = some a ∧ (trackFrom prev theta good s.ant).2.thetaP = some b ∧
            (trackFrom prev theta good s.ant).2.start = a ∧ b < a ∧ ¬(49152 ≤ a ∧ b < 16384)) := by
        constructor
        · intro hc
          rcases classify_cases prev theta with ⟨-, hb⟩ | ⟨-, -, ha⟩ | ⟨hn, hlt, -⟩
          · cases hc.symm.trans hb
          · cases hc.symm.trans ha
          · exact ⟨prev, theta, hprev, rfl, rfl, hlt, hn⟩
        · rintro ⟨a, b, ha, hb, -, hlt, hn⟩
          cases hprev.symm.trans ha
          cases hb
          rcases classify_cases prev theta with ⟨hy, -⟩ | ⟨-, hle, -⟩ | ⟨-, -, hr⟩
          · exact absurd hy hn
          · exact absurd hlt (Nat.not_lt.2 hle)
          · exact hr
      refine ⟨?_, rfl, rfl, rfl, hrev⟩
      rw [hcycle, FrameInfo.boundary, hcls, cycleAfter]
      by_cases hb : (classify prev theta).1 = .boundary
      · rw [if_pos hb, hb]
        exact (decide_eq_true (succ_cycle_ne _)).symm
      · rw [if_neg hb, beq_eq_false_iff_ne.2 hb]
        exact (decide_eq_false fun hne => hne rfl).symm
  obtain ⟨hboundary, hstart, hstep, htheta, hreverse⟩ := hfacts
  rw [← hant] at honly hboundary hstart hstep htheta
  refine ⟨honly, hrpq, hboundary, hstart, hstep, htheta, ?_, hflags⟩
  unfold Reversed
  rw [hant]
  exact hreverse

namespace Tracked

variable {f : FrameInfo} {s u : State}

/-- The frame's window, in the words of the statements. -/
theorem crosses_eq (h : Tracked f s u) {t : State} (ht : t.ant = u.ant) (angle : Nat) :
    crosses f angle = crossedOn t angle := by
  unfold crossedOn crosses presentFrameInfo
  rw [h.start, h.step, ht]

theorem boundary_eq (h : Tracked f s u) {t : State} (ht : t.ant = u.ant) : f.boundary = boundaryFrom s t := by
  unfold boundaryFrom
  rw [h.boundary, ht]

end Tracked

/-! ### The first part of a frame's work -/

theorem applyPendingBase_sch (s : State) :
    (applyPendingBase s).sch =
      { s.sch with planBase := s.sch.pendingBase.getD s.sch.planBase, pendingBase := none } := by
  unfold applyPendingBase
  cases h : s.sch.pendingBase with
  | none =>
    show s.sch = { s.sch with planBase := s.sch.planBase, pendingBase := none }
    rw [← h]
  | some b => rfl

theorem applyPendingBase_rest (s : State) :
    (applyPendingBase s).cx = s.cx ∧ (applyPendingBase s).mku = s.mku ∧ (applyPendingBase s).rpq = s.rpq ∧
      (applyPendingBase s).flags = s.flags := by
  unfold applyPendingBase
  split <;> exact ⟨rfl, rfl, rfl, rfl⟩

theorem setFlagIf_rpq (c : Bool) (g : Flag) (s : State) : (setFlagIf c g s).rpq = s.rpq := by
  unfold setFlagIf
  split <;> rfl

/-- The contexts after a frame has been taken by the first `n`. -/
def takenSet (f : FrameInfo) (n : Nat) (set : List Ctx) : List Ctx :=
  (set.take n).map (fun c => (takeFrame f c).1) ++ set.drop n

/-- What the first part of a frame's work does, samples and flags aside. -/
structure CoreFacts (f : FrameInfo) (n : Nat) (u v : State) : Prop where
  only : EventsOnly (u.withLmu v.lmu) v
  ring : v.ring = u.ring
  mku : v.mku = u.mku
  rpq : v.rpq = u.rpq
  cx : v.cx = { u.cx with set := takenSet f n u.cx.set }
  sch : v.sch =
    if f.boundary = true then
      { u.sch with planBase := u.sch.pendingBase.getD u.sch.planBase, pendingBase := none }
    else u.sch

theorem frameCore_facts (f : FrameInfo) (n : Nat) (u : State) : CoreFacts f n u (frameCore f n u) := by
  have hbase : (if f.boundary = true then applyPendingBase u else u).cx = u.cx ∧
      (if f.boundary = true then applyPendingBase u else u).mku = u.mku ∧
      (if f.boundary = true then applyPendingBase u else u).rpq = u.rpq ∧
      (if f.boundary = true then applyPendingBase u else u).sch =
        if f.boundary = true then
          { u.sch with planBase := u.sch.pendingBase.getD u.sch.planBase, pendingBase := none }
        else u.sch := by
    obtain ⟨hcx, hmku, hrpq, -⟩ := applyPendingBase_rest u
    split
    · exact ⟨hcx, hmku, hrpq, applyPendingBase_sch u⟩
    · exact ⟨rfl, rfl, rfl, rfl⟩
  generalize hw : (if f.boundary = true then applyPendingBase u else u) = w at hbase
  obtain ⟨hcx, hmku, hrpq, hsch⟩ := hbase
  have hlate := setFlagIf_only (anyLate (takeUpTo f n w.cx.set)) .startLate
    (w.withCx { w.cx with set := (takeUpTo f n w.cx.set).map (·.1) ++ w.cx.set.drop n })
  have hprep : framePrep f n u = muteTakes (contextsTake f n w) := by rw [framePrep, hw]
  have hsat := SampleComputation.saturationFlags_only
    (rawOutputs (contributions f n u.cx.set) f.theta (framePrep f n u)) (framePrep f n u)
  have hsatrpq : (saturationFlags (rawOutputs (contributions f n u.cx.set) f.theta (framePrep f n u))
      (framePrep f n u)).rpq = (framePrep f n u).rpq := (setFlagIf_rpq _ _ _).trans (setFlagIf_rpq _ _ _)
  have hevents := (SampleComputation.framePrep_only f n u).trans hsat.events
  refine ⟨?_, (frameCore_sameTables f n u).ring, ?_, ?_, ?_, ?_⟩
  · exact ⟨hevents.ant, hevents.edt, hevents.sau, rfl, hevents.cw, hevents.dsr, hevents.up, hevents.cmx, hevents.par,
      hevents.pending⟩
  · refine hsat.mku.trans ?_
    rw [hprep]
    exact hlate.mku.trans hmku
  · refine hsatrpq.trans ?_
    rw [hprep]
    exact (setFlagIf_rpq _ _ _).trans hrpq
  · refine hsat.cx.trans ?_
    rw [hprep]
    refine hlate.cx.trans ?_
    show ({ w.cx with set := (takeUpTo f n w.cx.set).map (·.1) ++ w.cx.set.drop n } : Cx) = _
    rw [hcx, takeUpTo, List.map_map]
    rfl
  · refine hsat.sch.trans ?_
    rw [hprep]
    exact hlate.sch.trans hsch

/-! ### The parts in a free order and the end of a frame's work -/

/-- The parts of a frame's work that come about in a free order. -/
def frameParts (f : FrameInfo) (n : Nat) (u : State) : List Item :=
  frameItems f (takeUpTo f n u.cx.set) (frameLimits f n u) (frameCore f n u)

/-- The state after the parts in a free order. -/
def partsRun (f : FrameInfo) (n : Nat) (u : State) : State := runAll f (frameParts f n u) (frameCore f n u)

/-- What follows the parts: the end of a step and the OUTPUT frame. -/
structure WorkEnds (ends : Bool) (r t : State) : Prop where
  ant : t.ant = r.ant
  edt : t.edt = r.edt
  ring : t.ring = r.ring
  cx : t.cx = r.cx
  sau : t.sau = r.sau
  lmu : t.lmu = r.lmu
  cw : t.cw = r.cw
  mku : t.mku = r.mku
  up : t.up = r.up
  cmx : t.cmx = r.cmx
  rpq : t.rpq = r.rpq
  par : t.par = r.par
  flags : t.flags = r.flags
  pending : t.pending = r.pending
  sch : t.sch = if ends = true ∧ r.sch.state = .stepping then { r.sch with state := .halted } else r.sch

theorem frameWork_ends (p : Presented) (f : FrameInfo) (n : Nat) (u : State) :
    WorkEnds (f.boundary && ringOccupied (frameCore f n u)) (partsRun f n u) (frameWork p f n u) := by
  have hend (ends : Bool) (r : State) :
      endStepIf ends r =
        r.withSch (if ends = true ∧ r.sch.state = .stepping then { r.sch with state := .halted } else r.sch) := by
    unfold endStepIf
    simp only [Bool.and_eq_true, beq_iff_eq]
    split <;> rfl
  unfold frameWork
  dsimp only
  rw [hend]
  constructor <;> rfl

/-- A property of the items of a frame, by the parts that they come from. -/
theorem forall_frameParts {Q : Item → Prop} {f : FrameInfo} {n : Nat} {u : State}
    (hring : f.boundary = true → ringOccupied (frameCore f n u) = true → Q .ringRead)
    (hcycle : f.boundary = true → anyMarkerHit (hitCycle (frameCore f n u).ant.cycle) (frameCore f n u) = true →
      Q .cycleMarks)
    (hctx : ∀ c ∈ u.cx.set.take n, ∀ x ∈ itemsOf (frameCore f n u) (takeFrame f c), Q x)
    (hlimits : limitNews (frameLimits f n u) (frameCore f n u) = true → Q (.limits (frameLimits f n u)))
    (hclip : anyMarkerHit (hitClip ((frameLimits f n u).map (·.clipped))) (frameCore f n u) = true →
      Q (.clipMarks ((frameLimits f n u).map (·.clipped)))) :
    ∀ x ∈ frameParts f n u, Q x := by
  intro x hx
  have hone {c : Bool} {y : Item} (h : c = true → Q y) (hy : x ∈ if c = true then [y] else []) : Q x := by
    split at hy
    · next hc =>
      rw [List.mem_singleton.1 hy]
      exact h hc
    · cases hy
  simp only [frameParts, frameItems, List.mem_append, List.mem_flatMap] at hx
  rcases hx with (((hx | hx) | ⟨r, hr, hx⟩) | hx) | hx
  · exact hone (fun hc => by simp only [Bool.and_eq_true] at hc; exact hring hc.1 hc.2) hx
  · exact hone (fun hc => by simp only [Bool.and_eq_true] at hc; exact hcycle hc.1 hc.2) hx
  · obtain ⟨c, hc, rfl⟩ := List.mem_map.1 hr
    exact hctx c hc x hx
  · exact hone hlimits hx
  · exact hone hclip hx

/-- The items of a context are its start or the end of its life. -/
theorem mem_itemsOf {s : State} {f : FrameInfo} {c : Ctx} {x : Item} (h : x ∈ itemsOf s (takeFrame f c)) :
    (∃ late, x = .lifeStarts c.index late ∧ (takeFrame f c).2 = .start late ∧ startShows s (takeFrame f c).1 = true) ∨
      (x = .lifeEnds c.index ∧ (takeFrame f c).2 = .lifeEnd) := by
  unfold itemsOf at h
  rw [takeFrame_index] at h
  split at h
  · cases h
  · next late hlate =>
    split at h
    · next hshow => exact .inl ⟨late, List.mem_singleton.1 h, hlate, hshow⟩
    · cases h
  · next hend => exact .inr ⟨List.mem_singleton.1 h, hend⟩

end Sys2Proof.FrameParts

namespace Sys2Proof.FrameParts

open Sys2Proof.Machine Sys2Proof.Safety Sys2Proof.EventDescriptors Sys2Proof.OutputLimits
open Sys2Proof.StepInvariants Sys2Proof.FlagsAndWatch Sys2Proof.FrameEvents
open Sys2Proof.ContextRows Sys2Proof.ChainRows Sys2Proof.SchedulerCommands Sys2Proof.FrameRun
open Sys2Proof.FrameEffects Sys2Proof.FrameContexts

/-! ### How often an item waits -/

theorem once_of_count {x : Item} {Q : Item → Prop} {l : List Item} (hx : x ∈ l) (hcount : l.count x ≤ 1)
    (hQ : ∀ y ∈ l, y ≠ x → Q y) : Once x Q l := by
  refine ⟨l.erase x, List.perm_cons_erase hx, fun y hy => hQ y (List.mem_of_mem_erase hy) ?_⟩
  rintro rfl
  have hpos := List.count_pos_iff.2 hy
  rw [List.count_erase_self] at hpos
  omega

theorem count_ite_singleton (c : Bool) (x y : Item) :
    (if c = true then [y] else []).count x ≤ if y = x then 1 else 0 := by
  split
  · rw [List.count_singleton]
    simp
  · exact Nat.zero_le _

/-- The item comes from a context that takes the frame. -/
def ofContext (x : Item) : Bool :=
  match x with
  | .lifeStarts _ _ => true
  | .lifeEnds _ => true
  | .ringRead => false
  | .cycleMarks => false
  | .afterLink _ => false
  | .limits _ => false
  | .clipMarks _ => false

theorem count_frameParts_le (f : FrameInfo) (n : Nat) (u : State) (x : Item) :
    (frameParts f n u).count x ≤
      ((takeUpTo f n u.cx.set).flatMap (itemsOf (frameCore f n u))).count x + if ofContext x then 0 else 1 := by
  have hring := count_ite_singleton (f.boundary && ringOccupied (frameCore f n u)) x .ringRead
  have hcycle := count_ite_singleton
    (f.boundary && anyMarkerHit (hitCycle (frameCore f n u).ant.cycle) (frameCore f n u)) x .cycleMarks
  have hlimits := count_ite_singleton (limitNews (frameLimits f n u) (frameCore f n u)) x
    (.limits (frameLimits f n u))
  have hclip := count_ite_singleton
    (anyMarkerHit (hitClip ((frameLimits f n u).map (·.clipped))) (frameCore f n u)) x
    (.clipMarks ((frameLimits f n u).map (·.clipped)))
  have hone : (if Item.ringRead = x then 1 else 0) + (if Item.cycleMarks = x then 1 else 0) +
      (if Item.limits (frameLimits f n u) = x then 1 else 0) +
      (if Item.clipMarks ((frameLimits f n u).map (·.clipped)) = x then 1 else 0) ≤
        if ofContext x then 0 else 1 := by
    cases x <;> simp [ofContext] <;> split <;> decide
  simp only [frameParts, frameItems, List.count_append]
  omega

/-- Only contexts give the items of contexts. -/
theorem count_contexts_eq_zero (f : FrameInfo) (s : State) (l : List Ctx) {x : Item} (hx : ofContext x = false) :
    ((l.map (takeFrame f)).flatMap (itemsOf s)).count x = 0 := by
  refine List.count_eq_zero.2 fun hmem => ?_
  obtain ⟨r, hr, hmem⟩ := List.mem_flatMap.1 hmem
  obtain ⟨c, -, rfl⟩ := List.mem_map.1 hr
  rcases mem_itemsOf hmem with ⟨late, rfl, -⟩ | ⟨rfl, -⟩ <;> cases hx

theorem count_frameParts_of_frame (f : FrameInfo) (n : Nat) (u : State) {x : Item} (hx : ofContext x = false) :
    (frameParts f n u).count x ≤ 1 := by
  have h := count_frameParts_le f n u x
  rw [takeUpTo, count_contexts_eq_zero f _ _ hx, hx] at h
  exact h

/-- A life ends once on a frame where no two contexts share an index. -/
theorem count_frameParts_lifeEnds (f : FrameInfo) (n : Nat) (u : State) (i : Nat)
    (hnodup : (u.cx.set.map (·.index)).Nodup) : (frameParts f n u).count (.lifeEnds i) ≤ 1 := by
  have hcontexts (l : List Ctx) : ((l.map (takeFrame f)).flatMap (itemsOf (frameCore f n u))).count (.lifeEnds i) ≤
      (l.map (·.index)).count i := by
    induction l with
    | nil => exact Nat.le_refl 0
    | cons c l ih =>
      have hone : (itemsOf (frameCore f n u) (takeFrame f c)).count (.lifeEnds i) ≤ if c.index = i then 1 else 0 := by
        unfold itemsOf
        rw [takeFrame_index]
        split
        · exact Nat.zero_le _
        · split <;> exact Nat.zero_le _
        · rw [List.count_singleton]
          simp
      rw [List.map_cons, List.flatMap_cons, List.count_append, List.map_cons, List.count_cons]
      simp only [beq_iff_eq]
      omega
  have htake : ((u.cx.set.take n).map (·.index)).count i ≤ 1 :=
    List.nodup_iff_count_le_one.1 (hnodup.sublist ((List.take_sublist n _).map _)) i
  have h := count_frameParts_le f n u (.lifeEnds i)
  exact h.trans ((hcontexts _).trans htake)

theorem count_ringRead_le (f : FrameInfo) (n : Nat) (u : State) : (frameParts f n u).count .ringRead ≤ 1 :=
  count_frameParts_of_frame f n u rfl

/-! ### Plan base, ring and Scheduler (R35, R38, R44, R123) -/

theorem partsRun_moved (f : FrameInfo) (n : Nat) (u : State) :
    Moved (fun _ => True) (frameCore f n u) (partsRun f n u) :=
  runItems_keeps (Moved (fun _ => True) (frameCore f n u)) f (fun n _ h => h.trans (.choose n _))
    (fun it _ h => h.trans ((Moved.doItem f it _).mono fun _ _ => trivial)) _ _ _ (.refl _)

theorem partsRun_ant (f : FrameInfo) (n : Nat) (u : State) : (partsRun f n u).ant = u.ant :=
  (partsRun_moved f n u).only.ant.trans (frameCore_facts f n u).only.ant

theorem frameWork_ant (p : Presented) (f : FrameInfo) (n : Nat) (u : State) : (frameWork p f n u).ant = u.ant :=
  (frameWork_ends p f n u).ant.trans (partsRun_ant f n u)

/-- Nothing but the ring read reaches the ring. -/
theorem doItem_ring (f : FrameInfo) {it : Item} (h : it ≠ .ringRead) (s : State) : (doItem f it s).1.ring = s.ring := by
  cases it with
  | ringRead => exact absurd rfl h
  | cycleMarks => exact (fireMarkers_sameTables _ s).ring
  | lifeStarts i late => exact (lifeStartsNow_sameTables i late s).ring
  | lifeEnds i => exact (lifeEndsNow_sameTables i s).ring
  | afterLink head => exact (armAfterLink_sameTables head s).ring
  | limits l => exact (limitFlags_only l s).ring
  | clipMarks c => exact (fireMarkers_sameTables _ s).ring

/-- What an item leaves is no ring read. -/
theorem doItem_left_ne_ringRead (f : FrameInfo) (it : Item) (s : State) :
    ∀ x ∈ (doItem f it s).2, x ≠ .ringRead := by
  intro x hx
  rcases doItem_items f it s x hx with ⟨i, late, rfl⟩ | ⟨head, rfl⟩ <;> exact nofun

theorem partsRun_ring_of_not_boundary {f : FrameInfo} {n : Nat} {u : State} (hb : f.boundary = false) :
    (partsRun f n u).ring = u.ring := by
  have hkeep : ItemsKeep f (fun x => x ≠ .ringRead) (fun t => t.ring = u.ring) :=
    { choice := fun _ _ h => h
      item := fun it s hit h => (doItem_ring f hit s).trans h
      left := fun it s _ _ => doItem_left_ne_ringRead f it s }
  refine hkeep.runAll (count_ringRead_le f n u) ?_ (frameCore_facts f n u).ring
  refine forall_frameParts (fun h => ?_) (fun _ _ => nofun) (fun c _ x hx => ?_) (fun _ => nofun) (fun _ => nofun)
  · rw [hb] at h
    cases h
  · rcases mem_itemsOf hx with ⟨late, rfl, -⟩ | ⟨rfl, -⟩ <;> exact nofun

theorem ringOccupied_iff (s : State) :
    ringOccupied s = true ↔ Reads s ∧ tableGet s.ring (s.ant.cycle % 512) ≠ none := by
  unfold ringOccupied readsRing Reads slotOfCycle
  rw [Bool.and_eq_true, Option.isSome_iff_ne_none]
  cases s.sch.state <;> simp

section

variable {f : FrameInfo} {s u : State}

theorem frameCore_state (hT : Tracked f s u) (n : Nat) : (frameCore f n u).sch.state = s.sch.state := by
  have hsch : u.sch = s.sch := hT.only.sch
  rw [(frameCore_facts f n u).sch, ← hsch]
  split <;> rfl

theorem reads_frameCore (hT : Tracked f s u) (n : Nat) : Reads (frameCore f n u) ↔ Reads s := by
  unfold Reads
  rw [frameCore_state hT n]

theorem frameCore_ring (hT : Tracked f s u) (n : Nat) : (frameCore f n u).ring = s.ring :=
  (frameCore_facts f n u).ring.trans hT.only.ring

theorem frameCore_ant (f : FrameInfo) (n : Nat) (u : State) : (frameCore f n u).ant = u.ant :=
  (frameCore_facts f n u).only.ant

theorem ringOccupied_frameCore (hT : Tracked f s u) (n : Nat) :
    ringOccupied (frameCore f n u) = true ↔ Reads s ∧ tableGet s.ring (u.ant.cycle % 512) ≠ none := by
  rw [ringOccupied_iff, reads_frameCore hT n, frameCore_ring hT n, frameCore_ant]

/-- The Scheduler's state after a frame's work. -/
theorem frameWork_state (p : Presented) (hT : Tracked f s u) (n : Nat) :
    Halts s.sch.state (frameWork p f n u).sch.state ∧
      (s.sch.state = .stepping → f.boundary = true → ringOccupied (frameCore f n u) = true →
        (frameWork p f n u).sch.state = .halted) := by
  have hparts := (partsRun_moved f n u).state
  rw [frameCore_state hT n] at hparts
  have hsch := (frameWork_ends p f n u).sch
  rw [hsch]
  split
  · next h =>
    refine ⟨?_, fun _ _ _ => rfl⟩
    rcases hparts with hsame | ⟨-, hhalted⟩
    · exact .inr ⟨.inr (hsame.symm.trans h.2), rfl⟩
    · cases hhalted.symm.trans h.2
  · next h =>
    refine ⟨hparts, fun hstepping hb hocc => ?_⟩
    rcases hparts with hsame | ⟨-, hhalted⟩
    · exact absurd ⟨by rw [hb, hocc]; rfl, hsame.trans hstepping⟩ h
    · exact hhalted

theorem frameWork_planAndRing (p : Presented) (hT : Tracked f s u) (n : Nat) :
    PlanAndRing s (frameWork p f n u) := by
  obtain ⟨hstate, hstep⟩ := frameWork_state p hT n
  have hmoved := partsRun_moved f n u
  have hcore := frameCore_facts f n u
  have hends := frameWork_ends p f n u
  have hant := frameWork_ant p f n u
  have hsch : u.sch = s.sch := hT.only.sch
  have hboundary : f.boundary = decide ((frameWork p f n u).ant.cycle ≠ s.ant.cycle) := by rw [hant, hT.boundary]
  have hbase : (frameWork p f n u).sch.planBase = (frameCore f n u).sch.planBase ∧
      (frameWork p f n u).sch.pendingBase = (frameCore f n u).sch.pendingBase := by
    rw [hends.sch]
    split <;> exact ⟨hmoved.planBase, hmoved.pendingBase⟩
  obtain ⟨hplan, hpending⟩ := hbase
  rw [hcore.sch, hsch] at hplan hpending
  have hring : (frameWork p f n u).ring = s.ring ∨
      (Reads s ∧
        (∃ o, tableGet s.ring ((frameWork p f n u).ant.cycle % 512) = some { offset := o, persistence := .once }) ∧
        (frameWork p f n u).ring = tableErase s.ring ((frameWork p f n u).ant.cycle % 512)) := by
    have h := hmoved.ring
    unfold SlotRead at h
    rwa [reads_frameCore hT n, frameCore_ring hT n, frameCore_ant, ← hant, ← hends.ring] at h
  refine ⟨fun hsame => ?_, fun hne => ?_, fun h => ?_, fun h => ?_, fun h => ?_, fun h => ?_⟩
  · have hb : f.boundary = false := by rw [hboundary, hsame]; exact decide_eq_false fun hn => hn rfl
    rw [hb] at hplan hpending
    exact ⟨hplan, hpending, hends.ring.trans ((partsRun_ring_of_not_boundary hb).trans hT.only.ring)⟩
  · have hb : f.boundary = true := by rw [hboundary]; exact decide_eq_true hne
    rw [if_pos hb] at hplan hpending
    refine ⟨hplan, hpending, fun k hk => ?_, fun hnone => ?_, fun o ho => ?_, fun hstepping hocc => ?_⟩
    · rcases hring with h | ⟨-, -, h⟩ <;> rw [h]
      rw [tableGet_erase, if_neg hk]
    · rcases hring with h | ⟨hreads, ⟨o, ho⟩, -⟩
      · exact h
      · rcases hnone with hno | hnone
        · exact absurd hreads hno
        · cases ho.symm.trans hnone
    · rcases hring with h | ⟨-, ⟨o', ho'⟩, -⟩
      · exact h
      · cases ho.symm.trans ho'
    · rw [hant] at hocc
      exact hstep hstepping hb ((ringOccupied_frameCore hT n).2 ⟨.inr hstepping, hocc⟩)
  all_goals rcases hstate with hsame | ⟨hreads, hhalted⟩
  · exact hsame.trans h
  · exact hhalted
  · exact hsame.trans h
  · rw [h] at hreads
    rcases hreads with hr | hr <;> cases hr
  · exact .inl (hsame.trans h)
  · exact .inr hhalted
  · exact .inl (hsame.trans h)
  · exact .inr hhalted

end

end Sys2Proof.FrameParts

namespace Sys2Proof.FrameParts

open Sys2Proof.Machine Sys2Proof.Safety Sys2Proof.EventDescriptors Sys2Proof.OutputLimits
open Sys2Proof.StepInvariants Sys2Proof.FlagsAndWatch Sys2Proof.FrameEvents
open Sys2Proof.ContextRows Sys2Proof.ChainRows Sys2Proof.SchedulerCommands Sys2Proof.FrameRun
open Sys2Proof.FrameEffects Sys2Proof.FrameContexts

/-! ### The contexts of the set over a frame (R64, R73, R75, R76) -/

theorem findCtx_of_mem {set : List Ctx} {c : Ctx} (hnodup : (set.map (·.index)).Nodup) (hc : c ∈ set) :
    findCtx set c.index = some c := by
  cases h : findCtx set c.index with
  | none => exact absurd (List.mem_map.2 ⟨c, hc, rfl⟩) (not_mem_indices h)
  | some d =>
    rw [List.inj_on_of_nodup_map hnodup (List.mem_of_find?_eq_some h) hc (findCtx_index h)]

theorem takenSet_indices (f : FrameInfo) (n : Nat) (set : List Ctx) :
    (takenSet f n set).map (·.index) = set.map (·.index) := by
  have hmap : ((set.take n).map (fun c => (takeFrame f c).1)).map (·.index) = (set.take n).map (·.index) := by
    rw [List.map_map]
    exact List.map_congr_left fun c _ => takeFrame_index f c
  rw [takenSet, List.map_append, hmap, ← List.map_append, List.take_append_drop]

/-- A context that has taken the frame stands in its place. -/
theorem findCtx_takenSet {f : FrameInfo} {n : Nat} {set : List Ctx} {c : Ctx} (hnodup : (set.map (·.index)).Nodup)
    (hc : c ∈ set.take n) : findCtx (takenSet f n set) c.index = some (takeFrame f c).1 := by
  rw [← takeFrame_index f c]
  refine findCtx_of_mem (by rwa [takenSet_indices]) ?_
  exact List.mem_append_left _ (List.mem_map.2 ⟨c, hc, rfl⟩)

/-- No context but those whose life the frame ends brings an end of a life. -/
theorem no_lifeEnds {f : FrameInfo} {n : Nat} {u : State} {c : Ctx} (hnodup : (u.cx.set.map (·.index)).Nodup)
    (hc : c ∈ u.cx.set.take n) (hstays : (takeFrame f c).2 ≠ .lifeEnd) :
    ∀ x ∈ frameParts f n u, x ≠ .lifeEnds c.index := by
  refine forall_frameParts (fun _ _ => nofun) (fun _ _ => nofun) (fun e he x hx => ?_) (fun _ => nofun)
    (fun _ => nofun)
  rcases mem_itemsOf hx with ⟨late, rfl, -⟩ | ⟨rfl, hend⟩
  · exact nofun
  · intro h
    have hindex : e.index = c.index := Item.lifeEnds.inj h
    have hsame := List.inj_on_of_nodup_map hnodup (List.mem_of_mem_take he) (List.mem_of_mem_take hc) hindex
    rw [hsame] at hend
    exact hstays hend

theorem mem_frameParts_lifeEnds {f : FrameInfo} {n : Nat} {u : State} {c : Ctx} (hc : c ∈ u.cx.set.take n)
    (hend : (takeFrame f c).2 = .lifeEnd) : Item.lifeEnds c.index ∈ frameParts f n u := by
  have hitems : itemsOf (frameCore f n u) (takeFrame f c) = [.lifeEnds c.index] := by
    unfold itemsOf
    rw [takeFrame_index, hend]
  simp only [frameParts, frameItems, List.mem_append, List.mem_flatMap]
  exact .inl (.inl (.inr ⟨takeFrame f c, List.mem_map.2 ⟨c, hc, rfl⟩, by rw [hitems]; exact List.mem_singleton_self _⟩))

theorem doItem_left_ne_lifeEnds (f : FrameInfo) (i : Nat) (it : Item) (s : State) :
    ∀ x ∈ (doItem f it s).2, x ≠ .lifeEnds i := by
  intro x hx
  rcases doItem_items f it s x hx with ⟨j, late, rfl⟩ | ⟨head, rfl⟩ <;> exact nofun

/-- A context is in the set, marked HALT at most since. -/
def HoldsMarked (i : Nat) (d : Ctx) (t : State) : Prop :=
  findCtx t.cx.set i = some d ∨ (d.mark = .none ∧ findCtx t.cx.set i = some { d with mark := .halt })

theorem holdsMarked_kept (f : FrameInfo) (i : Nat) (d : Ctx) :
    ItemsKeep f (fun x => x ≠ .lifeEnds i) (HoldsMarked i d) where
  choice _ _ h := h
  item it s hit h := by
    have hkept := doItem_kept f it s
    rcases h with h | ⟨hmark, h⟩
    · exact (hkept.found i d hit h).imp id fun ⟨_, hmark, ht⟩ => ⟨hmark, ht⟩
    · rcases hkept.found i _ hit h with ht | ⟨-, hmark', -⟩
      · exact .inr ⟨hmark, ht⟩
      · cases hmark'
  left it s _ _ := doItem_left_ne_lifeEnds f i it s

/-- A context is in the set, and no marker can stop the plan. -/
def HoldsQuietly (i : Nat) (d : Ctx) (t : State) : Prop := NoStop t ∧ findCtx t.cx.set i = some d

theorem holdsQuietly_kept (f : FrameInfo) (i : Nat) (d : Ctx) :
    ItemsKeep f (fun x => x ≠ .lifeEnds i) (HoldsQuietly i d) where
  choice _ _ h := h
  item it s hit h := by
    obtain ⟨hstop, hfound⟩ := h
    refine ⟨hstop.doItem f it, ?_⟩
    exact ((doItem_kept f it s).found i d hit hfound).resolve_right fun ⟨hn, _⟩ => hn hstop
  left it s _ _ := doItem_left_ne_lifeEnds f i it s

/-! ### Ends of lives where nothing is armed -/

theorem mem_replaceCtx {set : List Ctx} {i : Nat} {c e : Ctx} (h : e ∈ replaceCtx set i c) : e ∈ set ∨ e = c := by
  obtain ⟨e', he', rfl⟩ := List.mem_map.1 h
  split
  · exact .inr rfl
  · exact .inl he'

/-- The end of a life brings no descriptor and no index into the set. -/
theorem mem_lifeEndedSet {i : Nat} {set : List Ctx} {e : Ctx} (h : e ∈ lifeEndedSet i set) :
    ∃ e' ∈ set, e.snap = e'.snap ∧ e.index = e'.index := by
  unfold lifeEndedSet at h
  split at h
  · exact ⟨e, h, rfl, rfl⟩
  · next c hc =>
    split at h
    · next c' hdecide =>
      rcases mem_replaceCtx h with h | rfl
      · exact ⟨e, h, rfl, rfl⟩
      · exact ⟨c, List.mem_of_find?_eq_some hc, decideLife_snap hdecide, decideLife_index hdecide⟩
    · exact ⟨e, List.mem_of_mem_filter h, rfl, rfl⟩

theorem length_lifeEndedSet_le (i : Nat) (set : List Ctx) : (lifeEndedSet i set).length ≤ set.length := by
  unfold lifeEndedSet
  split
  · exact Nat.le_refl _
  · split
    · exact Nat.le_of_eq (List.length_map ..)
    · exact List.length_filter_le ..

theorem findCtx_lifeEndedSet_other {i j : Nat} (set : List Ctx) (h : j ≠ i) :
    findCtx (lifeEndedSet i set) j = findCtx set j := by
  unfold lifeEndedSet
  split
  · rfl
  · next c hc =>
    split
    · next c' hdecide => exact findCtx_replaceCtx_other ((decideLife_index hdecide).trans (findCtx_index hc)) h
    · rw [findCtx_removeCtx, if_neg h]

theorem mem_quietSet {it : Item} {set : List Ctx} {e : Ctx} (h : e ∈ quietSet it set) :
    ∃ e' ∈ set, e.snap = e'.snap ∧ e.index = e'.index := by
  cases it with
  | lifeEnds i => exact mem_lifeEndedSet h
  | _ => exact ⟨e, h, rfl, rfl⟩

theorem length_quietSet_le (it : Item) (set : List Ctx) : (quietSet it set).length ≤ set.length := by
  cases it with
  | lifeEnds i => exact length_lifeEndedSet_le i set
  | _ => exact Nat.le_refl _

theorem findCtx_quietSet_other {it : Item} {j : Nat} (set : List Ctx) (h : it ≠ .lifeEnds j) :
    findCtx (quietSet it set) j = findCtx set j := by
  cases it with
  | lifeEnds i => exact findCtx_lifeEndedSet_other set fun hij => h (by rw [hij])
  | _ => rfl

/-- No context of the state has a chain to arm. -/
def Unlinked (s : State) : Prop := ∀ c ∈ s.cx.set, linksAfter c.snap = false

theorem Unlinked.doItem {s : State} (h : Unlinked s) (hs : NoStop s) (f : FrameInfo) {it : Item}
    (hit : ArmsNothing it) :
    Unlinked (doItem f it s).1 ∧ (doItem f it s).2 = [] := by
  obtain ⟨hcx, -, -⟩ := doItem_quiet f hit hs
  refine ⟨fun e he => ?_, ?_⟩
  · rw [hcx] at he
    obtain ⟨e', he', hsnap, -⟩ := mem_quietSet he
    rw [hsnap]
    exact h e' he'
  · cases it with
    | ringRead => exact absurd rfl hit.1
    | lifeEnds i =>
      rcases lifeEndsNow_items i s with hnone | ⟨c, hc, hlink, -⟩
      · exact hnone
      · rw [h c (List.mem_of_find?_eq_some hc)] at hlink
        cases hlink
    | _ => rfl

/-- An item that arms nothing and does not end the life of a context. -/
def Passes (i : Nat) (it : Item) : Prop := ArmsNothing it ∧ it ≠ .lifeEnds i

/-- What stands of an index where nothing is armed: `r` is its context, if any. -/
def Stands (i : Nat) (r : Option Ctx) (t : State) : Prop := NoStop t ∧ Unlinked t ∧ findCtx t.cx.set i = r

theorem stands_kept (f : FrameInfo) (i : Nat) (r : Option Ctx) : ItemsKeep f (Passes i) (Stands i r) where
  choice _ _ h := h
  item it s hit h := by
    obtain ⟨hstop, hunlinked, hfound⟩ := h
    obtain ⟨harms, hother⟩ := hit
    obtain ⟨hcx, -, -⟩ := doItem_quiet f harms hstop
    refine ⟨hstop.doItem f it, (hunlinked.doItem hstop f harms).1, ?_⟩
    rw [hcx]
    exact (findCtx_quietSet_other _ hother).trans hfound
  left it s hit h := by
    obtain ⟨hstop, hunlinked, -⟩ := h
    rw [(hunlinked.doItem hstop f hit.1).2]
    exact fun _ hx => nomatch hx

section

variable {f : FrameInfo} {s u : State}

theorem noStop_frameCore (hT : Tracked f s u) (n : Nat) (h : NoStop s) : NoStop (frameCore f n u) :=
  h.of_same ((frameCore_facts f n u).mku.trans hT.only.mku)

theorem unlinked_frameCore (hT : Tracked f s u) (n : Nat) (h : ∀ c ∈ s.cx.set, linksAfter c.snap = false) :
    Unlinked (frameCore f n u) := by
  intro e he
  rw [(frameCore_facts f n u).cx, hT.only.cx] at he
  rcases List.mem_append.1 he with he | he
  · obtain ⟨c, hc, rfl⟩ := List.mem_map.1 he
    obtain ⟨hsnap, -, -⟩ := takeFrame_snap_mark f c
    rw [hsnap]
    exact h c (List.mem_of_mem_take hc)
  · exact h e (List.mem_of_mem_drop he)

/-- On a frame that is no boundary the items arm nothing. -/
theorem armsNothing_of_not_boundary {f : FrameInfo} {n : Nat} {u : State} (hb : f.boundary = false) :
    ∀ x ∈ frameParts f n u, ArmsNothing x := by
  refine forall_frameParts (fun h => ?_) (fun _ _ => ⟨nofun, fun _ => nofun⟩) (fun c _ x hx => ?_)
    (fun _ => ⟨nofun, fun _ => nofun⟩) (fun _ => ⟨nofun, fun _ => nofun⟩)
  · rw [hb] at h
    cases h
  · rcases mem_itemsOf hx with ⟨late, rfl, -⟩ | ⟨rfl, -⟩ <;> exact ⟨nofun, fun _ => nofun⟩

theorem decideLife_of_ending {c : Ctx}
    (h : c.mark ≠ .none ∨ (c.snap.repeats ≠ 0 ∧ min (c.lives + 1) 255 = c.snap.repeats)) :
    ∃ aborted, decideLife c = .ends aborted := by
  unfold decideLife livesAfter
  dsimp only
  split
  · exact ⟨true, rfl⟩
  · next habort =>
    split
    · exact ⟨false, rfl⟩
    · next hhalt =>
      have hnone : c.mark = .none := by cases hm : c.mark <;> simp_all
      rw [if_pos (h.resolve_left fun hn => hn hnone)]
      exact ⟨false, rfl⟩

theorem frameWork_contextsTook (p : Presented) (hT : Tracked f s u) (n : Nat) :
    ContextsTook n s (frameWork p f n u) := by
  intro hnodup c hc
  have hant := frameWork_ant p f n u
  have hcx : u.cx = s.cx := hT.only.cx
  have hcore : findCtx (frameCore f n u).cx.set c.index = some (takeFrame f c).1 := by
    rw [(frameCore_facts f n u).cx, hcx]
    exact findCtx_takenSet hnodup hc
  rw [← hcx] at hnodup hc
  have hcross : crosses f = crossedOn (frameWork p f n u) := funext fun angle => hT.crosses_eq hant angle
  rw [← hT.boundary_eq hant, ← hcross, (frameWork_ends p f n u).cx]
  obtain ⟨-, hmark, -⟩ := takeFrame_snap_mark f c
  refine ⟨fun hstays => ?_, fun hends hquiet => ⟨fun hnone hlives => ?_, fun hlast hsame => ?_⟩⟩
  · obtain ⟨hevent, htaken⟩ := takeFrame_of_stays hstays
    have hheld : HoldsMarked c.index (takeFrame f c).1 (partsRun f n u) :=
      (holdsMarked_kept f c.index _).runAll (count_ringRead_le f n u) (no_lifeEnds hnodup hc hevent) (.inl hcore)
    refine ⟨_, htaken, hheld.imp id fun ⟨hm, hfound⟩ => ⟨hmark.symm.trans hm, hfound⟩⟩
  all_goals
    obtain ⟨hend, -⟩ := takeFrame_of_lifeEnds hends
    have hmem := mem_frameParts_lifeEnds (f := f) (n := n) hc hend
    have hcount := count_frameParts_lifeEnds f n u c.index hnodup
    obtain ⟨hstop, hunlinked⟩ := hquiet
    have hstop' := noStop_frameCore hT n hstop
  · obtain ⟨d, hwent, hdecide⟩ := lifeWentOn_of_further hends hnone hlives
    have hturn (t : State) (ht : HoldsQuietly c.index (takeFrame f c).1 t) :
        HoldsQuietly c.index d (doItem f (.lifeEnds c.index) t).1 := by
      obtain ⟨hts, hfound⟩ := ht
      obtain ⟨hset, -, -⟩ := lifeEndsNow_quiet c.index hts
      refine ⟨hts.doItem f _, ?_⟩
      rw [doItem, hset]
      show findCtx (lifeEndedSet c.index t.cx.set) c.index = some d
      unfold lifeEndedSet
      rw [hfound]
      dsimp only
      rw [hdecide]
      exact findCtx_replaceCtx hfound ((decideLife_index hdecide).trans (takeFrame_index f c))
    have hheld := runAll_once (holdsQuietly_kept f c.index (takeFrame f c).1) (holdsQuietly_kept f c.index d)
      (fun _ h => h) hturn (fun t _ => doItem_left_ne_lifeEnds f c.index _ t) (count_ringRead_le f n u)
      (once_of_count hmem hcount fun _ _ hne => hne) ⟨hstop', hcore⟩
    exact ⟨d, hwent, hheld.2⟩
  · have hb : f.boundary = false := by
      rw [hT.boundary, ← hant, hsame]
      exact decide_eq_false fun hn => hn rfl
    obtain ⟨hsnap, -, hl⟩ := takeFrame_snap_mark f c
    obtain ⟨aborted, hdecide⟩ := decideLife_of_ending (c := (takeFrame f c).1) (by rwa [hmark, hsnap, hl])
    have hturn (t : State) (ht : Stands c.index (some (takeFrame f c).1) t) :
        Stands c.index none (doItem f (.lifeEnds c.index) t).1 := by
      obtain ⟨hts, htu, hfound⟩ := ht
      obtain ⟨hset, -, -⟩ := lifeEndsNow_quiet c.index hts
      refine ⟨hts.doItem f _, (htu.doItem hts f (it := .lifeEnds c.index) ⟨nofun, fun _ => nofun⟩).1, ?_⟩
      rw [doItem, hset]
      show findCtx (lifeEndedSet c.index t.cx.set) c.index = none
      unfold lifeEndedSet
      rw [hfound]
      dsimp only
      rw [hdecide]
      exact (findCtx_removeCtx _ _ _).trans (if_pos rfl)
    have hleft (t : State) (ht : Stands c.index (some (takeFrame f c).1) t) :
        ∀ y ∈ (doItem f (.lifeEnds c.index) t).2, Passes c.index y := by
      obtain ⟨hts, htu, -⟩ := ht
      rw [(htu.doItem hts f (it := .lifeEnds c.index) ⟨nofun, fun _ => nofun⟩).2]
      exact fun _ hy => nomatch hy
    exact (runAll_once (stands_kept f c.index _) (stands_kept f c.index none) (fun _ h => h) hturn hleft
      (count_ringRead_le f n u)
      (once_of_count hmem hcount fun y hy hne => ⟨armsNothing_of_not_boundary hb y hy, hne⟩)
      ⟨hstop', unlinked_frameCore hT n hunlinked, hcore⟩).2.2

end

end Sys2Proof.FrameParts

namespace Sys2Proof.FrameParts

open Sys2Proof.Machine Sys2Proof.Safety Sys2Proof.EventDescriptors Sys2Proof.OutputLimits
open Sys2Proof.StepInvariants Sys2Proof.FlagsAndWatch Sys2Proof.FrameEvents
open Sys2Proof.ContextRows Sys2Proof.ChainRows Sys2Proof.SchedulerCommands Sys2Proof.FrameRun
open Sys2Proof.FrameEffects Sys2Proof.FrameContexts

/-! ### The ring read that nothing hinders (R38, R44, R52, R56, R63) -/

/-- What holds until the ring read has its turn; `v` is the state before the parts. -/
structure BeforeRead (v t : State) : Prop where
  noStop : NoStop t
  unlinked : Unlinked t
  sch : t.sch = v.sch
  ring : t.ring = v.ring
  ant : t.ant = v.ant
  edt : t.edt = v.edt
  activation : t.cx.activation = v.cx.activation
  length : t.cx.set.length ≤ v.cx.set.length
  indices : ∀ e ∈ t.cx.set, e.index ∈ v.cx.set.map (·.index)

theorem beforeRead_kept (f : FrameInfo) (v : State) {Q : Item → Prop} (hQ : ∀ x, Q x → ArmsNothing x) :
    ItemsKeep f Q (BeforeRead v) where
  choice _ _ h := { h with }
  item it s hit h := by
    have harms := hQ it hit
    obtain ⟨hcx, hsch, hring⟩ := doItem_quiet f harms h.noStop
    have honly := doItem_only f it s
    refine ⟨h.noStop.doItem f it, (h.unlinked.doItem h.noStop f harms).1, hsch.trans h.sch, hring.trans h.ring,
      honly.ant.trans h.ant, honly.edt.trans h.edt, ?_, ?_, fun e he => ?_⟩
    · rw [hcx]
      exact h.activation
    · rw [hcx]
      exact (length_quietSet_le it _).trans h.length
    · rw [hcx] at he
      obtain ⟨e', he', -, hindex⟩ := mem_quietSet he
      rw [hindex]
      exact h.indices e' he'
  left it s hit h := by
    rw [(h.unlinked.doItem h.noStop f (hQ it hit)).2]
    exact fun _ hx => nomatch hx

theorem ringReadNow_of_slot (f : FrameInfo) {s : State} {slot : Slot} (hreads : Reads s)
    (hslot : tableGet s.ring (s.ant.cycle % 512) = some slot) :
    ringReadNow f s = armRing f (resolveOffset s slot.offset) (emptyOnce s.ant.cycle slot s) := by
  have hread : readsRing s.sch.state = true := by rcases hreads with h | h <;> rw [h] <;> rfl
  unfold ringReadNow slotOfCycle
  rw [if_pos hread, hslot]

/-- The emptying of a ONCE slot reaches the ring alone. -/
theorem emptyOnce_eq (n : Nat) (slot : Slot) (s : State) :
    emptyOnce n slot s = s.withRing (emptyOnce n slot s).ring := by
  unfold emptyOnce
  split <;> rfl

theorem emptyOnce_rest (n : Nat) (slot : Slot) (s : State) :
    (emptyOnce n slot s).cx = s.cx ∧ (emptyOnce n slot s).sch = s.sch ∧ (emptyOnce n slot s).mku = s.mku ∧
      (emptyOnce n slot s).ant = s.ant ∧ (emptyOnce n slot s).edt = s.edt := by
  rw [emptyOnce_eq]
  exact ⟨rfl, rfl, rfl, rfl, rfl⟩

/-- What a consistency fault does to a Scheduler that is not FAULTED. -/
theorem consistencyFault_sch (c : FaultCause) {s : State} (hs : s.sch.state ≠ .faulted) :
    (consistencyFault c s).sch =
      { s.sch with state := .halted, fault := s.sch.fault.or (some (faultDetails c s)) } := by
  rw [consistencyFault_eq, chainFault, (raise_only _ _).sch, if_neg hs]

theorem consistencyFault_cx (c : FaultCause) (s : State) : (consistencyFault c s).cx = s.cx := by
  rw [consistencyFault_eq, chainFault, (raise_only _ _).cx]

theorem startNowOrLater_fires (items : List Item) (s : State) :
    FiresOnly (fun _ => True) s (startNowOrLater items s).1 := by
  have hlife (i : Nat) (late : Bool) (t : State) : FiresOnly (fun _ => True) t (lifeStartsNow i late t) := by
    unfold lifeStartsNow
    split
    · exact .refl t
    · exact .noticeAndFire (fun _ _ => trivial) _ _ t
  unfold startNowOrLater
  split
  · split
    · exact (FiresOnly.ofReports (chooseFirst_only s)).trans (hlife _ _ _)
    · exact .ofReports (chooseFirst_only s)
  · exact .refl s

theorem findCtx_append_new {set : List Ctx} {i : Nat} {c : Ctx} (h : findCtx set i = none) (hc : c.index = i) :
    findCtx (set ++ [c]) i = some c := by
  unfold findCtx at *
  rw [List.find?_append, h, Option.none_or]
  exact List.find?_cons_of_pos (beq_iff_eq.2 hc)

/-- One entry of a ring read that has a place, no STOP being armed. -/
theorem offerRingEntry_of_free (f : FrameInfo) {s : State} {l : List Item} {i : Nat} {d : Desc} (hstop : NoStop s)
    (hd : tableGet s.edt i = some d) (habsent : findCtx s.cx.set i = none) (hroom : s.cx.set.length < 8) :
    (offerRingEntry f (s, l) i).1.cx =
        { set := s.cx.set ++ [(takeFrame f (newContext i d ((s.cx.activation + 1) % 65536) .ring)).1]
          activation := (s.cx.activation + 1) % 65536 } ∧
      (offerRingEntry f (s, l) i).1.sch = s.sch := by
  have hskip : skipReason s.cx.set i = none := by
    unfold skipReason
    rw [habsent]
    exact if_neg (Nat.not_le.2 hroom)
  unfold offerRingEntry
  dsimp only
  rcases ringEntry_cases f i s with ⟨reason, hsome, -⟩ | ⟨-, hempty, -⟩ | ⟨d', c, n, t, -, hd', rfl, rfl, rfl, htake⟩
  · cases hskip.symm.trans hsome
  · cases hd.symm.trans hempty
  · cases hd.symm.trans hd'
    rw [htake]
    exact (startNowOrLater_fires _ _).quiet (hstop.of_same rfl)

/-- A context just armed by a ring read has counted the boundary. -/
theorem takeFrame_newContext_ctx {f : FrameInfo} (hb : f.boundary = true) (i : Nat) (d : Desc) (n : Nat) :
    (takeFrame f (newContext i d n .ring)).1 = waited 1 (crosses f d.alpha) (joined i d .ring n) := by
  have hcount : countedBounds f.boundary (joined i d .ring n).bounds = 1 := by rw [hb]; rfl
  rw [newContext_eq_joined, takeFrame_of_wait f rfl, takeWait_eq f rfl, waitTests_ctx, hcount]
  rfl

/-- The fault of a ring read's walk stands: nothing after it arms or stops. -/
structure FaultStands (v : State) (c : FaultCause) (t : State) : Prop where
  noStop : NoStop t
  unlinked : Unlinked t
  sch : t.sch = { v.sch with state := .halted, fault := v.sch.fault.or (some (faultDetails c v)) }
  activation : t.cx.activation = v.cx.activation

theorem faultStands_kept (f : FrameInfo) (v : State) (c : FaultCause) :
    ItemsKeep f ArmsNothing (FaultStands v c) where
  choice _ _ h := { h with }
  item it s hit h := by
    obtain ⟨hcx, hsch, -⟩ := doItem_quiet f hit h.noStop
    refine ⟨h.noStop.doItem f it, (h.unlinked.doItem h.noStop f hit).1, hsch.trans h.sch, ?_⟩
    rw [hcx]
    exact h.activation
  left it s hit h := by
    rw [(h.unlinked.doItem h.noStop f hit).2]
    exact fun _ hx => nomatch hx

/-- The context that a ring read has armed stands: no other has that index. -/
structure ArmedStands (i : Nat) (v : State) (c : Ctx) (t : State) : Prop where
  noStop : NoStop t
  unlinked : ∀ e ∈ t.cx.set, e.index ≠ i → linksAfter e.snap = false
  sch : t.sch = v.sch
  activation : t.cx.activation = (v.cx.activation + 1) % 65536
  found : findCtx t.cx.set i = some c

/-- Only the context that was armed may have a chain, and its life does not end. -/
theorem ArmedStands.left {i : Nat} {v s : State} {c : Ctx} (h : ArmedStands i v c s) (f : FrameInfo) {it : Item}
    (hit : Passes i it) : (doItem f it s).2 = [] := by
  obtain ⟨⟨hread, -⟩, hother⟩ := hit
  cases it with
  | ringRead => exact absurd rfl hread
  | lifeEnds j =>
    rcases lifeEndsNow_items j s with hnone | ⟨e, he, hlink, -⟩
    · exact hnone
    · have hj : e.index ≠ i := by
        rw [findCtx_index he]
        exact fun hij => hother (by rw [hij])
      rw [h.unlinked e (List.mem_of_find?_eq_some he) hj] at hlink
      cases hlink
  | _ => rfl

theorem armedStands_kept (f : FrameInfo) (i : Nat) (v : State) (c : Ctx) :
    ItemsKeep f (Passes i) (ArmedStands i v c) where
  choice _ _ h := { h with }
  item it s hit h := by
    obtain ⟨hcx, hsch, -⟩ := doItem_quiet f hit.1 h.noStop
    refine ⟨h.noStop.doItem f it, fun e he hne => ?_, hsch.trans h.sch, ?_, ?_⟩
    · rw [hcx] at he
      obtain ⟨e', he', hsnap, hindex⟩ := mem_quietSet he
      rw [hsnap]
      exact h.unlinked e' he' (by rwa [← hindex])
    · rw [hcx]
      exact h.activation
    · rw [hcx]
      exact (findCtx_quietSet_other _ hit.2).trans h.found
  left it s hit h := by
    rw [h.left f hit]
    exact fun _ hx => nomatch hx

/-- A slot that is EMPTY stays so. -/
theorem emptySlot_kept (f : FrameInfo) (k : Nat) :
    ItemsKeep f (fun _ => True) (fun t => tableGet t.ring k = none) where
  choice _ _ h := h
  item it s _ h := by
    rcases (Moved.doItem f it s).ring with hring | ⟨-, -, hring⟩ <;> rw [hring]
    · exact h
    · rw [tableGet_erase]
      split
      · rfl
      · exact h
  left _ _ _ _ _ _ := trivial

theorem mem_frameParts_ringRead {f : FrameInfo} {n : Nat} {u : State} (hb : f.boundary = true)
    (hocc : ringOccupied (frameCore f n u) = true) : Item.ringRead ∈ frameParts f n u := by
  simp [frameParts, frameItems, hb, hocc]

/-- Beside the ring read the items of a frame arm nothing. -/
theorem armsNothing_of_ne {f : FrameInfo} {n : Nat} {u : State} :
    ∀ x ∈ frameParts f n u, x ≠ .ringRead → ArmsNothing x := by
  refine forall_frameParts (fun _ _ h => absurd rfl h) (fun _ _ _ => ⟨nofun, fun _ => nofun⟩) (fun c _ x hx _ => ?_)
    (fun _ _ => ⟨nofun, fun _ => nofun⟩) (fun _ _ => ⟨nofun, fun _ => nofun⟩)
  rcases mem_itemsOf hx with ⟨late, rfl, -⟩ | ⟨rfl, -⟩ <;> exact ⟨nofun, fun _ => nofun⟩

theorem no_lifeEnds_of_absent {f : FrameInfo} {n : Nat} {u : State} {i : Nat} (h : findCtx u.cx.set i = none) :
    ∀ x ∈ frameParts f n u, x ≠ .lifeEnds i := by
  refine forall_frameParts (fun _ _ => nofun) (fun _ _ => nofun) (fun c hc x hx => ?_) (fun _ => nofun)
    (fun _ => nofun)
  rcases mem_itemsOf hx with ⟨late, rfl, -⟩ | ⟨rfl, -⟩
  · exact nofun
  · intro heq
    exact not_mem_indices h (List.mem_map.2 ⟨c, List.mem_of_mem_take hc, Item.lifeEnds.inj heq⟩)

/-- The state after the ring read of a slot, from a state before it. -/
theorem ringRead_turn (f : FrameInfo) {v t : State} {slot : Slot} {head : Nat} (ht : BeforeRead v t) (hreads : Reads v)
    (hslot : tableGet v.ring (v.ant.cycle % 512) = some slot) (hhead : head = (v.sch.planBase + slot.offset) % 256) :
    ∃ w, doItem f .ringRead t = armRing f head w ∧ w.cx = t.cx ∧ w.sch = v.sch ∧ w.mku = t.mku ∧ w.ant = v.ant ∧
      w.edt = v.edt ∧ w.ring = (emptyOnce v.ant.cycle slot t).ring := by
  obtain ⟨hcx, hsch, hmku, hant, hedt⟩ := emptyOnce_rest t.ant.cycle slot t
  refine ⟨emptyOnce t.ant.cycle slot t, ?_, hcx, hsch.trans ht.sch, hmku, hant.trans ht.ant, hedt.trans ht.edt,
    by rw [ht.ant]⟩
  have hresolve : resolveOffset t slot.offset = head := by rw [resolveOffset, ht.sch, hhead]
  rw [doItem, ringReadNow_of_slot f (by unfold Reads; rwa [ht.sch]) (by rwa [ht.ring, ht.ant]), hresolve]

/-- A boundary frame that reads an occupied slot, nothing hindering it. -/
structure Launches (f : FrameInfo) (n : Nat) (u : State) (slot : Slot) (head : Nat) : Prop where
  boundary : f.boundary = true
  before : BeforeRead (frameCore f n u) (frameCore f n u)
  reads : Reads (frameCore f n u)
  occupied : tableGet (frameCore f n u).ring ((frameCore f n u).ant.cycle % 512) = some slot
  entry : head = ((frameCore f n u).sch.planBase + slot.offset) % 256

namespace Launches

variable {f : FrameInfo} {n : Nat} {u : State} {slot : Slot} {head : Nat}

theorem mem (h : Launches f n u slot head) : Item.ringRead ∈ frameParts f n u :=
  mem_frameParts_ringRead h.boundary ((ringOccupied_iff _).2 ⟨h.reads, by rw [h.occupied]; exact nofun⟩)

theorem once (h : Launches f n u slot head) : Once .ringRead ArmsNothing (frameParts f n u) :=
  once_of_count h.mem (count_ringRead_le f n u) armsNothing_of_ne

/-- A ONCE slot is emptied. -/
theorem emptied (h : Launches f n u slot head) (honce : slot.persistence = .once) :
    tableGet (partsRun f n u).ring ((frameCore f n u).ant.cycle % 512) = none := by
  refine runAll_once (beforeRead_kept f _ fun _ hx => hx) (emptySlot_kept f _) (fun _ _ => trivial)
    (fun t ht => ?_) (fun _ _ _ _ => trivial) (count_ringRead_le f n u) h.once h.before
  obtain ⟨w, hw, -, -, -, -, -, hring⟩ := ringRead_turn f ht h.reads h.occupied h.entry
  have herase : (emptyOnce (frameCore f n u).ant.cycle slot t).ring =
      tableErase t.ring ((frameCore f n u).ant.cycle % 512) := by
    unfold emptyOnce
    rw [honce]
    rfl
  rw [hw, (armRing_sameTables f head w).ring, hring, herase]
  exact tableGet_tableErase_self _ _

/-- The fault of the walk. -/
theorem walkFault (h : Launches f n u slot head) (c : FaultCause)
    (harm : ∀ w : State, w.edt = u.edt → armRing f head w = (consistencyFault c w, [])) :
    FaultStands (frameCore f n u) c (partsRun f n u) := by
  have hnotFaulted : (frameCore f n u).sch.state ≠ .faulted := by
    rcases h.reads with hr | hr <;> rw [hr] <;> decide
  have hedt : (frameCore f n u).edt = u.edt := (frameCore_facts f n u).only.edt
  refine runAll_once (beforeRead_kept f _ fun _ hx => hx) (faultStands_kept f _ c) (fun _ hx => hx)
    (fun t ht => ?_) (fun t ht => ?_) (count_ringRead_le f n u) h.once h.before
  all_goals
    obtain ⟨w, hw, hcx, hsch, hmku, hant, hwedt, -⟩ := ringRead_turn f ht h.reads h.occupied h.entry
    rw [hw, harm w (hwedt.trans hedt)]
  · have hfaulted := consistencyFault_sch c (s := w) (by rwa [hsch])
    refine ⟨(ht.noStop.of_same hmku).of_spent
      (Kept.consistencyFault (H := fun _ => False) (D := fun _ => False) c w).spent,
      fun e he => ?_, ?_, ?_⟩
    · rw [consistencyFault_cx, hcx] at he
      exact ht.unlinked e he
    · rw [hfaulted, hsch]
      unfold faultDetails
      rw [hant]
    · rw [consistencyFault_cx, hcx, ht.activation]
  · exact fun _ hy => nomatch hy

/-- The one entry of a chain is armed, and takes the frame. -/
theorem armed (h : Launches f n u slot head) {d : Desc} (hd : tableGet u.edt head = some d)
    (hlink : linksWith d = false) (habsent : findCtx u.cx.set head = none) (hroom : u.cx.set.length < 8) :
    ArmedStands head (frameCore f n u)
      (waited 1 (crosses f d.alpha) (joined head d .ring (((frameCore f n u).cx.activation + 1) % 65536)))
      (partsRun f n u) := by
  have hcore := frameCore_facts f n u
  have hindices : (frameCore f n u).cx.set.map (·.index) = u.cx.set.map (·.index) := by
    rw [hcore.cx]
    exact takenSet_indices f n _
  have hlength : (frameCore f n u).cx.set.length = u.cx.set.length := by
    have := congrArg List.length hindices
    rwa [List.length_map, List.length_map] at this
  have honce : Once .ringRead (Passes head) (frameParts f n u) :=
    once_of_count h.mem (count_ringRead_le f n u) fun y hy hne =>
      ⟨armsNothing_of_ne y hy hne, no_lifeEnds_of_absent habsent y hy⟩
  refine runAll_once (beforeRead_kept f _ fun _ hx => hx.1) (armedStands_kept f head _ _) (fun _ hx => hx)
    (fun t ht => ?_) (fun t ht y hy => ?_) (count_ringRead_le f n u) honce h.before
  · obtain ⟨w, hw, hcx, hsch, hmku, -, hwedt, -⟩ := ringRead_turn f ht h.reads h.occupied h.entry
    have hwd : tableGet w.edt head = some d := by rwa [hwedt, hcore.only.edt]
    have harm : armRing f head w = offerRingEntry f (w, []) head := by
      unfold armRing
      rw [walk_of_unlinked hwd hlink]
      rfl
    have hfree : findCtx w.cx.set head = none := by
      refine findCtx_eq_none fun hmem => ?_
      rw [hcx] at hmem
      obtain ⟨e, he, hindex⟩ := List.mem_map.1 hmem
      have hin := ht.indices e he
      rw [hindices, hindex] at hin
      exact not_mem_indices habsent hin
    have hwroom : w.cx.set.length < 8 := by
      rw [hcx]
      exact Nat.lt_of_le_of_lt (ht.length.trans (Nat.le_of_eq hlength)) hroom
    have hwstop := ht.noStop.of_same hmku
    obtain ⟨hset, hwsch⟩ := offerRingEntry_of_free f (l := []) hwstop hwd hfree hwroom
    have hkept := Kept.offerRingEntry (H := fun _ => True) (D := fun _ => False) (fun _ => trivial) f (w, []) head
    rw [hw, harm]
    refine ⟨hwstop.of_spent hkept.spent, fun e he hne => ?_, hwsch.trans hsch, ?_, ?_⟩
    · rw [hset] at he
      rcases List.mem_append.1 he with he | he
      · rw [hcx] at he
        exact ht.unlinked e he
      · rw [List.mem_singleton.1 he, takeFrame_index] at hne
        exact absurd rfl hne
    · rw [hset, hcx, ht.activation]
    · rw [hset]
      refine (findCtx_append_new hfree (takeFrame_index f _)).trans ?_
      rw [hcx, ht.activation, takeFrame_newContext_ctx h.boundary]
  · obtain ⟨i, late, rfl⟩ := (ringReadNow_items f t).2 y hy
    exact ⟨⟨nofun, fun _ => nofun⟩, nofun⟩

end Launches

section

variable {f : FrameInfo} {s u : State}

theorem launches_of_unhindered (hT : Tracked f s u) (n : Nat) (hquiet : Unhindered s) (hreads : Reads s)
    (hb : f.boundary = true) {slot : Slot} {head : Nat} (hslot : tableGet s.ring (u.ant.cycle % 512) = some slot)
    (hhead : head = (s.sch.pendingBase.getD s.sch.planBase + slot.offset) % 256) : Launches f n u slot head := by
  obtain ⟨hstop, hunlinked⟩ := hquiet
  have husch : u.sch = s.sch := hT.only.sch
  refine ⟨hb, ⟨noStop_frameCore hT n hstop, unlinked_frameCore hT n hunlinked, rfl, rfl, rfl, rfl, rfl, Nat.le_refl _,
    fun e he => List.mem_map.2 ⟨e, he, rfl⟩⟩, (reads_frameCore hT n).2 hreads, ?_, ?_⟩
  · rwa [frameCore_ring hT n, frameCore_ant]
  · rw [(frameCore_facts f n u).sch, if_pos hb, husch]
    exact hhead

theorem frameWork_ringLaunch (p : Presented) (hT : Tracked f s u) (n : Nat) :
    RingLaunch s (frameWork p f n u) := by
  intro hquiet hne hreads slot head hslot hhead
  have hant := frameWork_ant p f n u
  have hends := frameWork_ends p f n u
  have hcore := frameCore_facts f n u
  have hb : f.boundary = true := by
    rw [hT.boundary, ← hant]
    exact decide_eq_true hne
  rw [hant] at hslot
  have hlaunch := launches_of_unhindered hT n hquiet hreads hb hslot hhead
  have hsch := hcore.sch
  have husch : u.sch = s.sch := hT.only.sch
  rw [if_pos hb, husch] at hsch
  have hcx : u.cx = s.cx := hT.only.cx
  have hactivation : (frameCore f n u).cx.activation = s.cx.activation := by rw [hcore.cx, hcx]
  have hedt : u.edt = s.edt := hT.only.edt
  have hfault (c : FaultCause)
      (harm : ∀ w : State, w.edt = s.edt → armRing f head w = (consistencyFault c w, [])) :
      (frameWork p f n u).sch.state = .halted ∧ (frameWork p f n u).cx.activation = s.cx.activation ∧
        (frameWork p f n u).sch.fault = s.sch.fault.or (some (faultDetails c (frameWork p f n u))) := by
    have hstands := hlaunch.walkFault c (by rwa [hedt])
    have hwork := hends.sch
    rw [hstands.sch, if_neg (fun h => nomatch h.2)] at hwork
    refine ⟨by rw [hwork], by rw [hends.cx, hstands.activation, hactivation], ?_⟩
    rw [hwork, hsch]
    unfold faultDetails
    rw [hant, frameCore_ant]
  refine ⟨fun honce => ?_, fun i hwalk => hfault _ fun w hw => ?_, fun hwalk => hfault _ fun w hw => ?_,
    fun d hd hlink habsent hroom => ?_⟩
  · have hempty := hlaunch.emptied honce
    rwa [frameCore_ant, ← hant, ← hends.ring] at hempty
  · unfold armRing
    rw [hw, hwalk]
  · unfold armRing
    rw [hw, hwalk]
  · have harmed := hlaunch.armed (by rwa [hedt]) hlink (by rwa [hcx]) (by rwa [hcx])
    refine ⟨fun hrunning => ?_, ?_, ?_, ?_⟩
    · have hstate : (partsRun f n u).sch.state = .running := by rw [harmed.sch, hsch]; exact hrunning
      rw [hends.sch, if_neg (by rw [hstate]; exact fun h => nomatch h.2)]
      exact hstate
    · have hrecord : (partsRun f n u).sch.fault = s.sch.fault := by rw [harmed.sch, hsch]
      rw [hends.sch]
      split <;> exact hrecord
    · rw [hends.cx, harmed.activation, hactivation]
    · rw [hends.cx, harmed.found, hactivation, hT.crosses_eq hant]

end

end Sys2Proof.FrameParts

namespace Sys2Proof.FrameParts

open Sys2Proof.Machine Sys2Proof.Safety Sys2Proof.EventDescriptors Sys2Proof.OutputLimits
open Sys2Proof.StepInvariants Sys2Proof.FlagsAndWatch Sys2Proof.FrameEvents
open Sys2Proof.ContextRows Sys2Proof.ChainRows Sys2Proof.SchedulerCommands Sys2Proof.FrameRun
open Sys2Proof.FrameEffects Sys2Proof.FrameContexts

/-! ### Markers that a frame fires (R120 to R123) -/

/-- Marker k, `m` before, has fired in a plan that was read where `reads` says so. -/
structure FiredAs (m : Marker) (reads : Prop) (k : Nat) (t : State) : Prop where
  marker : t.mku.markers.get k = { m with state := if m.mode = .once then .spent else .armed }
  pulse : m.actions.getLsbD 0 = true → m.width ≤ t.mku.pulse
  stop : m.actions.getLsbD 1 = true → reads → t.sch.state = .halted

/-- Marker k waits, and the plan is read or has been stopped. -/
structure WaitsAs (m : Marker) (reads : Prop) (k : Nat) (t : State) : Prop where
  marker : t.mku.markers.get k = m
  plan : reads → Reads t ∨ t.sch.state = .halted

theorem afterFiring_eq {m : Marker} (h : m.state = .armed) :
    afterFiring m = { m with state := if m.mode = .once then .spent else .armed } := by
  obtain ⟨state, cond, actions, mode, width⟩ := m
  cases (show state = .armed from h)
  cases mode <;> rfl

theorem stopNow_state {s : State} (h : Reads s ∨ s.sch.state = .halted) : (stopNow s).sch.state = .halted := by
  unfold stopNow
  rcases h with (h | h) | h <;> rw [h]
  · rfl
  · rfl
  · exact h

theorem fire_state (k : Nat) {s : State} (hstop : (s.mku.markers.get k).actions.getLsbD 1 = true)
    (h : Reads s ∨ s.sch.state = .halted) : (fire k s).sch.state = .halted := by
  rw [fire_eq]
  show (fireActions k s).sch.state = .halted
  unfold fireActions
  dsimp only
  rw [(raiseIf_only _ _ _).sch, if_pos hstop]
  refine stopNow_state ?_
  split
  · exact h
  · exact h

section

variable {m : Marker} {reads : Prop} {k : Nat}

/-- An armed marker fires. -/
theorem WaitsAs.fire {s : State} (h : WaitsAs m reads k s) (hk : k < 4) (harmed : m.state = .armed) :
    FiredAs m reads k (fire k s) := by
  obtain ⟨hm, hplan⟩ := h
  refine ⟨?_, fun hpulse => ?_, fun hstop hreads => fire_state k (by rwa [hm]) (hplan hreads)⟩
  · rw [fire_mku, hm]
    exact (markers_get_set_self _ _ hk).trans (afterFiring_eq harmed)
  · rw [fire_mku, hm]
    show m.width ≤ if m.actions.getLsbD 0 = true then max s.mku.pulse m.width else s.mku.pulse
    rw [if_pos hpulse]
    exact Nat.le_max_right _ _

/-- What moves a block without firing marker k keeps its wait. -/
theorem WaitsAs.moved {F : Flag → Prop} {s t : State} (h : WaitsAs m reads k s) (hmoved : Moved F s t)
    (hm : t.mku.markers.get k = s.mku.markers.get k) : WaitsAs m reads k t := by
  refine ⟨hm.trans h.marker, fun hreads => ?_⟩
  unfold Reads
  rcases hmoved.state with hsame | ⟨-, hhalted⟩
  · rw [hsame]
    exact h.plan hreads
  · exact .inr hhalted

theorem FiredAs.moved {F : Flag → Prop} {s t : State} (h : FiredAs m reads k s) (hmoved : Moved F s t)
    (hm : t.mku.markers.get k = s.mku.markers.get k) : FiredAs m reads k t := by
  refine ⟨hm.trans h.marker, fun hp => (h.pulse hp).trans hmoved.pulse, fun hstop hreads => ?_⟩
  rcases hmoved.state with hsame | ⟨-, hhalted⟩
  · exact hsame.trans (h.stop hstop hreads)
  · exact hhalted

theorem fireIfHit_get_other (hit : MarkerCond → Bool) {j : Nat} (hk : k < 4) (hj : j ≠ k) (s : State) :
    (fireIfHit hit j s).mku.markers.get k = s.mku.markers.get k := by
  unfold fireIfHit
  split
  · rw [fire_mku]
    exact markers_get_set_other _ _ hk hj
  · rfl

/-- An occurrence fires every armed marker that it meets. -/
theorem WaitsAs.fireMarkers {hit : MarkerCond → Bool} {s : State} (h : WaitsAs m reads k s) (hk : k < 4)
    (harmed : m.state = .armed) (hhit : hit m.cond = true) : FiredAs m reads k (fireMarkers hit s) := by
  have hmoved (j : Nat) (t : State) : Moved (fun _ => True) t (fireIfHit hit j t) := Moved.fireIfHit trivial hit j t
  have hpass {j : Nat} {t : State} (ht : WaitsAs m reads k t) (hj : j ≠ k) : WaitsAs m reads k (fireIfHit hit j t) :=
    ht.moved (hmoved j t) (fireIfHit_get_other hit hk hj t)
  have hdone {j : Nat} {t : State} (ht : FiredAs m reads k t) (hj : j ≠ k) : FiredAs m reads k (fireIfHit hit j t) :=
    ht.moved (hmoved j t) (fireIfHit_get_other hit hk hj t)
  have hturn {t : State} (ht : WaitsAs m reads k t) : FiredAs m reads k (fireIfHit hit k t) := by
    have hmark : markerHit hit k t = true := by
      unfold markerHit
      rw [ht.marker, harmed, hhit]
      rfl
    unfold fireIfHit
    rw [if_pos hmark]
    exact ht.fire hk harmed
  obtain rfl | rfl | rfl | rfl : k = 0 ∨ k = 1 ∨ k = 2 ∨ k = 3 := by omega
  · exact hdone (hdone (hdone (hturn h) (by decide)) (by decide)) (by decide)
  · exact hdone (hdone (hturn (hpass h (by decide))) (by decide)) (by decide)
  · exact hdone (hturn (hpass (hpass h (by decide)) (by decide))) (by decide)
  · exact hturn (hpass (hpass (hpass h (by decide)) (by decide)) (by decide))

end

/-- The conditions that only the frame itself meets. -/
def FrameCond (c : MarkerCond) : Prop := (∃ v, c = .cycle v) ∨ ∃ mask, c = .clip mask

theorem not_hits_of_start {cycle : Nat} {x : Item} {c : MarkerCond} (hc : FrameCond c)
    (hx : IsStart x ∨ ∃ head, x = .afterLink head) : ¬Hits cycle x c := by
  rcases hx with ⟨i, late, rfl⟩ | ⟨head, rfl⟩
  · intro h
    cases (show c = .descStart i from h)
    rcases hc with ⟨v, hc⟩ | ⟨mask, hc⟩ <;> cases hc
  · exact id

theorem not_hits_of_ctx {cycle : Nat} {f : FrameInfo} {s : State} {e : Ctx} {x : Item} {c : MarkerCond}
    (hc : FrameCond c) (hx : x ∈ itemsOf s (takeFrame f e)) : ¬Hits cycle x c := by
  rcases mem_itemsOf hx with ⟨late, rfl, -⟩ | ⟨rfl, -⟩
  · exact not_hits_of_start hc (.inl ⟨_, _, rfl⟩)
  · intro h
    cases (show c = .descEnd e.index from h)
    rcases hc with ⟨v, hc⟩ | ⟨mask, hc⟩ <;> cases hc

theorem not_hits_ringRead {cycle : Nat} {c : MarkerCond} (hc : FrameCond c) : ¬Hits cycle .ringRead c := by
  rintro ⟨i, rfl⟩
  rcases hc with ⟨v, hc⟩ | ⟨mask, hc⟩ <;> cases hc

section

variable {m : Marker} {reads : Prop} {k cycle : Nat}

theorem waitsAs_kept (f : FrameInfo) (hk : k < 4) (hc : FrameCond m.cond) :
    ItemsKeep f (fun x => ¬Hits cycle x m.cond) (fun t => t.ant.cycle = cycle ∧ WaitsAs m reads k t) where
  choice _ _ h := ⟨h.1, ⟨h.2.marker, h.2.plan⟩⟩
  item it s hit h := by
    obtain ⟨hcycle, hwaits⟩ := h
    have hmoved := Moved.doItem f it s
    refine ⟨(congrArg Ant.cycle hmoved.only.ant).trans hcycle, hwaits.moved hmoved ?_⟩
    exact (doItem_kept f it s).stand k hk (by rwa [hcycle, hwaits.marker])
  left it s _ _ x hx := not_hits_of_start hc (doItem_items f it s x hx)

theorem firedAs_kept (f : FrameInfo) (hk : k < 4) (hc : FrameCond m.cond) :
    ItemsKeep f (fun x => ¬Hits cycle x m.cond) (fun t => t.ant.cycle = cycle ∧ FiredAs m reads k t) where
  choice _ _ h := ⟨h.1, ⟨h.2.marker, h.2.pulse, h.2.stop⟩⟩
  item it s hit h := by
    obtain ⟨hcycle, hfired⟩ := h
    have hmoved := Moved.doItem f it s
    refine ⟨(congrArg Ant.cycle hmoved.only.ant).trans hcycle, hfired.moved hmoved ?_⟩
    exact (doItem_kept f it s).stand k hk (by rwa [hcycle, hfired.marker])
  left it s _ _ x hx := not_hits_of_start hc (doItem_items f it s x hx)

end

section

variable {f : FrameInfo} {s u : State} {n k : Nat}

theorem waitsAs_frameCore (hT : Tracked f s u) (n k : Nat) :
    WaitsAs (s.mku.markers.get k) (Reads s) k (frameCore f n u) := by
  refine ⟨?_, fun hreads => .inl ((reads_frameCore hT n).2 hreads)⟩
  rw [(frameCore_facts f n u).mku, hT.only.mku]
  rfl

/-- A marker that no item of the frame meets stands. -/
theorem frameWork_marker_stands (p : Presented) (hT : Tracked f s u) (hk : k < 4)
    (hc : FrameCond (s.mku.markers.get k).cond)
    (hmiss : ∀ x ∈ frameParts f n u, ¬Hits u.ant.cycle x (s.mku.markers.get k).cond) :
    (frameWork p f n u).mku.markers.get k = s.mku.markers.get k := by
  have hwaits := (waitsAs_kept (reads := Reads s) f hk hc).runAll (count_ringRead_le f n u) hmiss
    ⟨congrArg Ant.cycle (frameCore_ant f n u), waitsAs_frameCore hT n k⟩
  rw [(frameWork_ends p f n u).mku]
  exact hwaits.2.marker

/-- A marker that one item of the frame meets has fired once. -/
theorem frameWork_marker_fired (p : Presented) (hT : Tracked f s u) (hk : k < 4)
    (hc : FrameCond (s.mku.markers.get k).cond) {x : Item} (hx : x ∈ frameParts f n u) (hctx : ofContext x = false)
    (hmiss : ∀ y ∈ frameParts f n u, y ≠ x → ¬Hits u.ant.cycle y (s.mku.markers.get k).cond)
    (hturn : ∀ t : State, t.ant.cycle = u.ant.cycle → WaitsAs (s.mku.markers.get k) (Reads s) k t →
      FiredAs (s.mku.markers.get k) (Reads s) k (doItem f x t).1) :
    FiredAs (s.mku.markers.get k) (Reads s) k (frameWork p f n u) := by
  have hends := frameWork_ends p f n u
  obtain ⟨-, hmarker, hpulse, hstop⟩ := runAll_once (waitsAs_kept f hk hc) (firedAs_kept f hk hc) (fun _ h => h)
    (fun t ⟨hcycle, ht⟩ => ⟨(congrArg Ant.cycle (doItem_only f x t).ant).trans hcycle, hturn t hcycle ht⟩)
    (fun t _ y hy => not_hits_of_start hc (doItem_items f x t y hy)) (count_ringRead_le f n u)
    (once_of_count hx (count_frameParts_of_frame f n u hctx) hmiss)
    ⟨congrArg Ant.cycle (frameCore_ant f n u), waitsAs_frameCore hT n k⟩
  refine ⟨?_, ?_, fun hbit hreads => ?_⟩
  · rw [hends.mku]
    exact hmarker
  · rw [hends.mku]
    exact hpulse
  · have hhalted := hstop hbit hreads
    have hhalted' : (partsRun f n u).sch.state = .halted := hhalted
    rw [hends.sch, if_neg (by rw [hhalted']; exact fun h => nomatch h.2)]
    exact hhalted

/-- An armed marker that an occurrence meets is one that it meets. -/
theorem anyMarkerHit_of {hit : MarkerCond → Bool} {t : State} (hk : k < 4)
    (h : markerHit hit k t = true) : anyMarkerHit hit t = true := by
  unfold anyMarkerHit
  obtain rfl | rfl | rfl | rfl : k = 0 ∨ k = 1 ∨ k = 2 ∨ k = 3 := by omega
  all_goals simp [h]

theorem markerHit_frameCore (hT : Tracked f s u) {hit : MarkerCond → Bool}
    (harmed : (s.mku.markers.get k).state = .armed)
    (hhit : hit (s.mku.markers.get k).cond = true) : markerHit hit k (frameCore f n u) = true := by
  have hm := (waitsAs_frameCore hT n k).marker
  unfold markerHit
  rw [hm, harmed, hhit]
  rfl

theorem frameWork_cycleMarkersTook (p : Presented) (hT : Tracked f s u) (n : Nat) :
    CycleMarkersTook s (frameWork p f n u) := by
  intro k v hk harmed hcond
  have hant := frameWork_ant p f n u
  have hc : FrameCond (s.mku.markers.get k).cond := .inl ⟨v, hcond⟩
  rw [hant]
  have hothers : ∀ y ∈ frameParts f n u, y ≠ .cycleMarks → ¬Hits u.ant.cycle y (s.mku.markers.get k).cond := by
    refine forall_frameParts (fun _ _ _ => not_hits_ringRead hc) (fun _ _ h => absurd rfl h)
      (fun e _ y hy _ => not_hits_of_ctx hc hy) (fun _ _ => id) (fun _ _ hhit => ?_)
    rw [hcond] at hhit
    cases hhit
  refine ⟨fun hmiss => frameWork_marker_stands p hT hk hc ?_, fun hne hv => ?_⟩
  · intro x hx
    by_cases hcycle : x = .cycleMarks
    · subst hcycle
      intro hhit
      have hv : u.ant.cycle = v := by
        rw [hcond] at hhit
        exact (MarkerCond.cycle.inj hhit).symm
      have hb : f.boundary = true := by
        refine forall_frameParts (Q := fun y => y = .cycleMarks → f.boundary = true) (fun _ _ => nofun)
          (fun hb _ _ => hb) (fun e _ y hy heq => ?_) (fun _ => nofun) (fun _ => nofun) _ hx rfl
        rcases mem_itemsOf hy with ⟨late, rfl, -⟩ | ⟨rfl, -⟩ <;> cases heq
      rw [hT.boundary, decide_eq_true_eq] at hb
      exact hmiss.elim hb fun hn => hn hv
    · exact hothers x hx hcycle
  · have hb : f.boundary = true := by
      rw [hT.boundary]
      exact decide_eq_true hne
    have hhit : hitCycle u.ant.cycle (s.mku.markers.get k).cond = true := by
      rw [hcond, hv]
      exact beq_self_eq_true _
    have hany : anyMarkerHit (hitCycle (frameCore f n u).ant.cycle) (frameCore f n u) = true := by
      rw [frameCore_ant]
      exact anyMarkerHit_of hk (markerHit_frameCore hT harmed hhit)
    have hmem : Item.cycleMarks ∈ frameParts f n u := by simp [frameParts, frameItems, hb, hany]
    obtain ⟨hmarker, hpulse, hstop⟩ := frameWork_marker_fired p hT hk hc hmem rfl hothers fun t hcycle ht =>
      ht.fireMarkers hk harmed (hit := hitCycle t.ant.cycle) (by rw [hcycle]; exact hhit)
    exact ⟨hmarker, hpulse, hstop⟩

/-- The CLIP markers, given the phases that the peak stage changes. -/
theorem frameWork_clipMarkers (p : Presented) (hT : Tracked f s u) (n : Nat) {clipped : Phase → Prop}
    (hclipped : ∀ q, ((frameLimits f n u).get q).clipped = true ↔ clipped q) {mask : BitVec 3} (hk : k < 4)
    (harmed : (s.mku.markers.get k).state = .armed) (hcond : (s.mku.markers.get k).cond = .clip mask) :
    ((∀ q, mask.getLsbD (phaseBit q) = true → ¬clipped q) →
      (frameWork p f n u).mku.markers.get k = s.mku.markers.get k) ∧
    ((∃ q, mask.getLsbD (phaseBit q) = true ∧ clipped q) →
      FiredAs (s.mku.markers.get k) (Reads s) k (frameWork p f n u)) := by
  have hc : FrameCond (s.mku.markers.get k).cond := .inr ⟨mask, hcond⟩
  have hhits : hitClip ((frameLimits f n u).map (·.clipped)) (s.mku.markers.get k).cond = true ↔
      ∃ q, mask.getLsbD (phaseBit q) = true ∧ clipped q := by
    have hphase (q : Phase) : (((frameLimits f n u).map (·.clipped)).get q && maskHas mask q) = true ↔
        mask.getLsbD (phaseBit q) = true ∧ clipped q := by
      rw [Bool.and_eq_true, get_map, hclipped q, and_comm]
      rfl
    rw [hcond]
    have hor : hitClip ((frameLimits f n u).map (·.clipped)) (.clip mask) = true ↔
        ((((frameLimits f n u).map (·.clipped)).get .a && maskHas mask .a) = true ∨
          (((frameLimits f n u).map (·.clipped)).get .b && maskHas mask .b) = true) ∨
          (((frameLimits f n u).map (·.clipped)).get .c && maskHas mask .c) = true := by
      rw [← Bool.or_eq_true, ← Bool.or_eq_true]
      rfl
    rw [hor, hphase, hphase, hphase]
    constructor
    · rintro ((h | h) | h) <;> exact ⟨_, h⟩
    · rintro ⟨q, h⟩
      cases q with
      | a => exact .inl (.inl h)
      | b => exact .inl (.inr h)
      | c => exact .inr h
  have hothers : ∀ y ∈ frameParts f n u, y ≠ .clipMarks ((frameLimits f n u).map (·.clipped)) →
      ¬Hits u.ant.cycle y (s.mku.markers.get k).cond := by
    refine forall_frameParts (fun _ _ _ => not_hits_ringRead hc) (fun _ _ _ hhit => ?_)
      (fun e _ y hy _ => not_hits_of_ctx hc hy) (fun _ _ => id) (fun _ h => absurd rfl h)
    rw [hcond] at hhit
    cases hhit
  refine ⟨fun hmiss => frameWork_marker_stands p hT hk hc fun x hx => ?_, fun hsome => ?_⟩
  · by_cases hclip : x = .clipMarks ((frameLimits f n u).map (·.clipped))
    · subst hclip
      intro hhit
      obtain ⟨q, hq, hclips⟩ := hhits.1 hhit
      exact hmiss q hq hclips
    · exact hothers x hx hclip
  · have hhit := hhits.2 hsome
    have hany : anyMarkerHit (hitClip ((frameLimits f n u).map (·.clipped))) (frameCore f n u) = true :=
      anyMarkerHit_of hk (markerHit_frameCore hT harmed hhit)
    have hmem : Item.clipMarks ((frameLimits f n u).map (·.clipped)) ∈ frameParts f n u := by
      simp [frameParts, frameItems, hany]
    exact frameWork_marker_fired p hT hk hc hmem rfl hothers fun t _ ht => ht.fireMarkers hk harmed hhit

end

end Sys2Proof.FrameParts

namespace Sys2Proof.FrameParts

open Sys2Proof.Machine Sys2Proof.Safety Sys2Proof.EventDescriptors Sys2Proof.OutputLimits
open Sys2Proof.StepInvariants Sys2Proof.FlagsAndWatch Sys2Proof.FrameEvents
open Sys2Proof.ContextRows Sys2Proof.ChainRows Sys2Proof.SchedulerCommands Sys2Proof.FrameRun
open Sys2Proof.FrameEffects Sys2Proof.FrameContexts

/-! ### Values and contributions of the contexts (R65 to R74, R83) -/

/-- The value of a context for the frame. -/
theorem takeFrame_value (f : FrameInfo) (c : Ctx) : (takeFrame f c).1.value = frameValue c := by
  have hwaited (n : Nat) (crossed : Bool) : (waited n crossed c).value = neutralOf c.snap.kind := by
    unfold waited started
    split <;> rfl
  cases hlife : c.life with
  | wait =>
    rw [takeFrame_of_wait f hlife, takeWait_eq f hlife, waitTests_ctx, hwaited, frameValue, hlife]
  | gap =>
    have hneutral : frameValue c = neutralOf c.snap.kind := by rw [frameValue, hlife]
    rw [takeFrame_of_gap f hlife, hneutral]
    by_cases hend : f.boundary = true ∧ c.snap.gap ≤ c.bounds + 1
    · rw [takeGap_of_end hend, waitTests_ctx, hwaited]
    · rw [takeGap_of_stay hend]
  | rampIn =>
    rw [takeFrame_of_rampIn f hlife]
    by_cases hend : c.snap.rampIn ≤ c.stepCount + 1
    · rw [takeRampIn_of_end hlife hend]
    · rw [takeRampIn_of_step hlife hend]
  | rampOut => rw [takeFrame_of_rampOut f hlife, takeRampOut_eq hlife]
  | hold =>
    rw [takeFrame_of_hold f hlife]
    by_cases hend : HoldOver f.boundary (crosses f) c
    · rw [takeHold_of_over hlife hend]
      split <;> rfl
    · rw [takeHold_of_stay hlife hend]
      rfl

/-- What a context gives the Sample Arithmetic Unit. -/
def given (c : Ctx) : Contribution := { snap := c.snap, takenIn := c.life, value := frameValue c, tone := c.tone }

theorem contributions_eq (f : FrameInfo) (n : Nat) (set : List Ctx) :
    contributions f n set = (set.take n).map given := by
  refine List.map_congr_left fun c _ => ?_
  unfold contribution given
  rw [takeFrame_value]

theorem given_acts (c : Ctx) (p : Phase) : (given c).acts p = actsOn p c := by
  unfold Contribution.acts actsOn given maskHas isActive
  cases c.life <;> rfl

theorem isGain_eq (k : Kind) : isGain k = (k == .level || k == .openCircuit || k == .flicker) := by
  cases k <;> rfl

/-! ### Products and sums of a phase (R87, R88, R91 to R95) -/

theorem gainFactors_given (took : List Ctx) (p : Phase) (fold factor : Nat) :
    gainFactors (took.map given) p fold factor = factorsOf took p fold factor := by
  unfold gainFactors factorsOf
  rw [List.filter_map, List.map_map]
  have hfilter (c : Ctx) : ((fun d : Contribution => isGain d.snap.kind && d.acts p) ∘ given) c =
      (actsOn p c && (c.snap.kind == .level || c.snap.kind == .openCircuit || c.snap.kind == .flicker)) := by
    rw [Function.comp_apply, given_acts, Bool.and_comm]
    exact congrArg _ (isGain_eq _)
  rw [funext hfilter]
  rfl

theorem gainStep_eq (g : Nat) (b : Bool) (v : Nat) :
    gainStep (g, b) v = (min (gainTimes g v) 65535, b || decide (65535 < gainTimes g v)) := by
  have hproduct : gainProduct g v = gainTimes g v := rfl
  unfold gainStep Config.gainTop
  dsimp only
  rw [hproduct]
  by_cases h : 65535 < gainTimes g v
  · rw [if_pos h, decide_eq_true h, Bool.or_true, Nat.min_eq_right (Nat.le_of_lt h)]
  · rw [if_neg h, decide_eq_false h, Bool.or_false, Nat.min_eq_left (Nat.not_lt.1 h)]

/-- The envelope product and whether a gain step saturated. -/
theorem foldl_gainStep (vs : List Nat) (g : Nat) (b : Bool) :
    (vs.foldl gainStep (g, b)).1 = productOf g vs ∧
      ((vs.foldl gainStep (g, b)).2 = true ↔ b = true ∨ GainSaturates g vs) := by
  induction vs generalizing g b with
  | nil => exact ⟨rfl, (or_iff_left id).symm⟩
  | cons v vs ih =>
    obtain ⟨hproduct, hsat⟩ := ih (min (gainTimes g v) 65535) (b || decide (65535 < gainTimes g v))
    rw [List.foldl_cons, gainStep_eq]
    refine ⟨hproduct, hsat.trans ?_⟩
    rw [Bool.or_eq_true, decide_eq_true_eq, or_assoc]
    rfl

theorem injectedTerm_given (theta offset : Nat) (p : Phase) (c : Ctx) :
    injectedTerm theta offset p (given c) =
      if (actsOn p c && (c.snap.kind == .harmonic || c.snap.kind == .tone)) = true then
        ((frameValue c : Int) * sineEntry (termAngle theta offset c / 64) + 16384) / 32768
      else 0 := by
  unfold injectedTerm termAngle
  rw [given_acts]
  have hkind : (given c).snap.kind = c.snap.kind := rfl
  by_cases hacts : actsOn p c = true
  · rw [if_pos hacts, hacts, Bool.true_and, hkind]
    cases hk : c.snap.kind <;> rfl
  · rw [if_neg hacts, Bool.eq_false_iff.2 hacts]
    rfl

/-- A sum of terms that are 0 where a test fails. -/
theorem sum_map_ite {α : Type} (l : List α) (test : α → Bool) (term : α → Int) :
    (l.map (fun x => if test x = true then term x else 0)).sum = ((l.filter test).map term).sum := by
  induction l with
  | nil => rfl
  | cons x l ih =>
    rw [List.map_cons, List.sum_cons, ih, List.filter_cons]
    by_cases h : test x = true
    · rw [if_pos h, if_pos h, List.map_cons, List.sum_cons]
    · rw [if_neg h, if_neg h, Int.zero_add]

theorem injectionSum_given (took : List Ctx) (theta offset : Nat) (p : Phase) :
    injectionSum (took.map given) theta offset p = injectedSum took theta offset p := by
  unfold injectionSum injectedSum
  rw [List.map_map, ← sum_map_ite]
  exact congrArg List.sum (List.map_congr_left fun c _ => injectedTerm_given theta offset p c)

/-- The raw output of a phase, in the words of the statements. -/
theorem rawOutput_given (I : FrameInputs) (p : Phase) :
    (rawOutput (I.took.map given) I.theta p (I.arrived.sau.xHold.get p) (I.arrived.par.offset.get p)
        (I.arrived.cw.get p).fold I.factor).y = I.raw p ∧
      ((rawOutput (I.took.map given) I.theta p (I.arrived.sau.xHold.get p) (I.arrived.par.offset.get p)
        (I.arrived.cw.get p).fold I.factor).gainSat = true ↔ GainSaturates 16384 (I.factors p)) ∧
      ((rawOutput (I.took.map given) I.theta p (I.arrived.sau.xHold.get p) (I.arrived.par.offset.get p)
        (I.arrived.cw.get p).fold I.factor).sumSat = true ↔ I.raw p ≠ I.unsaturated p) := by
  obtain ⟨hproduct, hsat⟩ := foldl_gainStep (I.factors p) 16384 false
  have henvelope : envelope (I.took.map given) p (I.arrived.cw.get p).fold I.factor =
      (I.factors p).foldl gainStep (16384, false) := by
    unfold envelope
    rw [gainFactors_given]
    rfl
  have hsum : scaledInput (I.arrived.sau.xHold.get p)
        (envelope (I.took.map given) p (I.arrived.cw.get p).fold I.factor).1 +
      injectionSum (I.took.map given) I.theta (I.arrived.par.offset.get p) p = I.unsaturated p := by
    rw [henvelope, hproduct, injectionSum_given]
    rfl
  unfold rawOutput
  dsimp only
  rw [hsum, henvelope]
  refine ⟨rfl, hsat.trans (or_iff_right Bool.false_ne_true), ?_⟩
  rw [bne_iff_ne]
  rfl

/-! ### Slew and peak stages (R100, R101) -/

theorem limitPhase_inputs (I : FrameInputs) (p : Phase) :
    (limitPhase (I.raw p) (I.arrived.lmu.yPrev.get p) (I.arrived.par.slew.get p) (I.arrived.par.peak.get p)).y =
        I.emitted p ∧
      ((limitPhase (I.raw p) (I.arrived.lmu.yPrev.get p) (I.arrived.par.slew.get p)
        (I.arrived.par.peak.get p)).slewed = true ↔ SlewActs I p) ∧
      ((limitPhase (I.raw p) (I.arrived.lmu.yPrev.get p) (I.arrived.par.slew.get p)
        (I.arrived.par.peak.get p)).clipped = true ↔ PeakActs I p) := by
  have hslewed : slewStage (I.raw p) (I.arrived.lmu.yPrev.get p) (I.arrived.par.slew.get p) = I.slewed p := rfl
  have hemitted : peakStage (I.slewed p) (I.arrived.par.peak.get p) = I.emitted p := rfl
  unfold limitPhase
  dsimp only
  rw [hslewed, hemitted]
  refine ⟨rfl, ?_, ?_⟩
  · unfold SlewActs slewActs
    rw [← hslewed, Bool.or_eq_true, decide_eq_true_eq, decide_eq_true_eq]
    unfold slewStage
    split
    · omega
    · split <;> omega
  · unfold PeakActs peakActs
    rw [← hemitted, Bool.or_eq_true, decide_eq_true_eq, decide_eq_true_eq]
    unfold peakStage
    split
    · omega
    · split <;> omega

/-! ### The samples of a frame -/

section

variable {f : FrameInfo} {s u : State}

/-- The factor M for the frame. -/
theorem frameWork_factor (p : Presented) (f : FrameInfo) (n : Nat) (u : State) :
    (frameWork p f n u).lmu.factor = (muteFrame u.lmu).factor := by
  rw [SampleComputation.frameWork_lmu, SampleComputation.frameCore_lmu]

/-- The inputs of the frame, with the state that the tracker leaves. -/
theorem rawOutputs_get (p : Presented) (hT : Tracked f s u) (n : Nat) (q : Phase) :
    (rawOutputs (contributions f n u.cx.set) f.theta (framePrep f n u)).get q =
      rawOutput ((frameInputs n s (frameWork p f n u)).took.map given) (frameInputs n s (frameWork p f n u)).theta q
        (s.sau.xHold.get q) (s.par.offset.get q) (s.cw.get q).fold (frameInputs n s (frameWork p f n u)).factor := by
  have hprep := SampleComputation.framePrep_only f n u
  have hsau : (framePrep f n u).sau = s.sau := hprep.sau.trans hT.only.sau
  have hlmu : (framePrep f n u).lmu = muteFrame u.lmu := hprep.lmu
  have hcw : (framePrep f n u).cw = s.cw := hprep.cw.trans hT.only.cw
  have hpar : (framePrep f n u).par = s.par := hprep.par.trans hT.only.par
  have hcx : u.cx = s.cx := hT.only.cx
  have htheta : f.theta = (frameInputs n s (frameWork p f n u)).theta := by
    rw [hT.theta, ← frameWork_ant p f n u]
    rfl
  have hfactor : (frameInputs n s (frameWork p f n u)).factor = (muteFrame u.lmu).factor := frameWork_factor p f n u
  have hget : (rawOutputs (contributions f n u.cx.set) f.theta (framePrep f n u)).get q =
      rawOutput (contributions f n u.cx.set) f.theta q ((framePrep f n u).sau.xHold.get q)
        ((framePrep f n u).par.offset.get q) ((framePrep f n u).cw.get q).fold (framePrep f n u).lmu.factor := by
    cases q <;> rfl
  rw [hget, contributions_eq, hsau, hpar, hcw, hlmu, hcx, ← hfactor, htheta]
  rfl

/-- The limited samples of a frame, in the words of the statements. -/
theorem frameLimits_inputs (p : Presented) (hT : Tracked f s u) (n : Nat) (q : Phase) :
    ((frameLimits f n u).get q).y = (frameInputs n s (frameWork p f n u)).emitted q ∧
      (((frameLimits f n u).get q).slewed = true ↔ SlewActs (frameInputs n s (frameWork p f n u)) q) ∧
      (((frameLimits f n u).get q).clipped = true ↔ PeakActs (frameInputs n s (frameWork p f n u)) q) := by
  have hprep := SampleComputation.framePrep_only f n u
  have hlmu : (framePrep f n u).lmu.yPrev = s.lmu.yPrev := by
    have h : (framePrep f n u).lmu = muteFrame u.lmu := hprep.lmu
    have hu : u.lmu = s.lmu := hT.only.lmu
    rw [h, SampleComputation.muteFrame_yPrev, hu]
  have hpar : (framePrep f n u).par = s.par := hprep.par.trans hT.only.par
  obtain ⟨hraw, -, -⟩ := rawOutput_given (frameInputs n s (frameWork p f n u)) q
  have hget : (frameLimits f n u).get q =
      limitPhase ((rawOutputs (contributions f n u.cx.set) f.theta (framePrep f n u)).get q).y
        ((framePrep f n u).lmu.yPrev.get q) ((framePrep f n u).par.slew.get q)
        ((framePrep f n u).par.peak.get q) := by
    cases q <;> rfl
  have hinputs : (frameLimits f n u).get q =
      limitPhase ((frameInputs n s (frameWork p f n u)).raw q) (s.lmu.yPrev.get q) (s.par.slew.get q)
        (s.par.peak.get q) := by
    rw [hget, rawOutputs_get p hT n q, hlmu, hpar, ← hraw]
    rfl
  rw [hinputs]
  exact limitPhase_inputs (frameInputs n s (frameWork p f n u)) q

theorem frameWork_samplesEmitted (p : Presented) (hT : Tracked f s u) (n : Nat) :
    SamplesEmitted n s (frameWork p f n u) := by
  have hy (q : Phase) := (frameLimits_inputs p hT n q).1
  have hu : u.lmu = s.lmu := hT.only.lmu
  have hmap : (frameLimits f n u).map (·.y) =
      ⟨(frameInputs n s (frameWork p f n u)).emitted .a, (frameInputs n s (frameWork p f n u)).emitted .b,
        (frameInputs n s (frameWork p f n u)).emitted .c⟩ :=
    congr (congr (congrArg PerPhase.mk (hy .a)) (hy .b)) (hy .c)
  unfold SamplesEmitted
  rw [← hmap, SampleComputation.frameWork_lmu, SampleComputation.frameCore_lmu, hu, muteFrame_eq_muteOver]

theorem frameWork_clipMarkersTook (p : Presented) (hT : Tracked f s u) (n : Nat) :
    ClipMarkersTook n s (frameWork p f n u) := by
  intro k mask hk harmed hcond
  obtain ⟨hstands, hfires⟩ := frameWork_clipMarkers p hT n (fun q => (frameLimits_inputs p hT n q).2.2) hk harmed hcond
  refine ⟨hstands, fun hsome => ?_⟩
  obtain ⟨hmarker, hpulse, hstop⟩ := hfires hsome
  exact ⟨hmarker, hpulse, hstop⟩

end

end Sys2Proof.FrameParts

namespace Sys2Proof.FrameParts

open Sys2Proof.Machine Sys2Proof.Safety Sys2Proof.EventDescriptors Sys2Proof.OutputLimits
open Sys2Proof.StepInvariants Sys2Proof.FlagsAndWatch Sys2Proof.FrameEvents
open Sys2Proof.ContextRows Sys2Proof.ChainRows Sys2Proof.SchedulerCommands Sys2Proof.FrameRun
open Sys2Proof.FrameEffects Sys2Proof.FrameContexts

/-! ### The sticky flags up to the parts in a free order (R8, R66, R88, R95, R154) -/

theorem flagIsSet_setFlagIf (c : Bool) (g : Flag) (s : State) (x : Flag) :
    flagIsSet (setFlagIf c g s).flags x = true ↔ flagIsSet s.flags x = true ∨ (x = g ∧ c = true) := by
  cases c with
  | true =>
    show flagIsSet (flagsWith s.flags g) x = true ↔ _
    rw [flagIsSet_flagsWith, Bool.or_eq_true, decide_eq_true_eq]
    exact or_congr_right (and_iff_left rfl).symm
  | false => exact (or_iff_left fun h => Bool.false_ne_true h.2).symm

/-- A late start is made by a context that waits, on a frame that does not cross its start angle (R66). -/
theorem takeFrame_late_iff (f : FrameInfo) (c : Ctx) :
    (takeFrame f c).2 = .start true ↔
      c.life = .wait ∧ crosses f c.snap.alpha = false ∧ 2 ≤ countedBounds f.boundary c.bounds := by
  have hwait (n : Nat) : (waitTests f { c with life := .wait, bounds := n }).2 = .start true ↔
      crosses f c.snap.alpha = false ∧ 2 ≤ n := by
    unfold waitTests
    by_cases hcross : crosses f c.snap.alpha = true
    · rw [if_pos hcross, hcross]
      exact iff_of_false nofun (fun h => Bool.false_ne_true h.1.symm)
    · rw [if_neg hcross, Bool.eq_false_iff.2 hcross]
      by_cases hn : 2 ≤ n
      · rw [if_pos hn]
        exact iff_of_true rfl ⟨rfl, hn⟩
      · rw [if_neg hn]
        exact iff_of_false nofun fun h => hn h.2
  cases hlife : c.life with
  | wait =>
    rw [takeFrame_of_wait f hlife, takeWait_eq f hlife, hwait]
    exact (and_iff_right rfl).symm
  | gap =>
    rw [takeFrame_of_gap f hlife]
    refine iff_of_false (fun h => ?_) nofun
    by_cases hend : f.boundary = true ∧ c.snap.gap ≤ c.bounds + 1
    · rw [takeGap_of_end hend, hwait] at h
      exact absurd h.2 (by decide)
    · rw [takeGap_of_stay hend] at h
      cases h
  | rampIn =>
    rw [takeFrame_of_rampIn f hlife]
    refine iff_of_false (fun h => ?_) nofun
    by_cases hend : c.snap.rampIn ≤ c.stepCount + 1
    · rw [takeRampIn_of_end hlife hend] at h
      cases h
    · rw [takeRampIn_of_step hlife hend] at h
      cases h
  | rampOut =>
    rw [takeFrame_of_rampOut f hlife, takeRampOut_eq hlife]
    refine iff_of_false (fun h => ?_) nofun
    dsimp only at h
    split at h <;> cases h
  | hold =>
    rw [takeFrame_of_hold f hlife]
    refine iff_of_false (fun h => ?_) nofun
    by_cases hend : HoldOver f.boundary (crosses f) c
    · rw [takeHold_of_over hlife hend] at h
      split at h <;> cases h
    · rw [takeHold_of_stay hlife hend] at h
      cases h

theorem anyLate_iff (f : FrameInfo) (n : Nat) (set : List Ctx) :
    anyLate (takeUpTo f n set) = true ↔
      ∃ c, c ∈ set.take n ∧ c.life = .wait ∧ crosses f c.snap.alpha = false ∧
        2 ≤ countedBounds f.boundary c.bounds := by
  unfold anyLate takeUpTo
  rw [List.any_map, List.any_eq_true]
  refine exists_congr fun c => and_congr_right fun _ => ?_
  rw [Function.comp_apply, beq_iff_eq]
  exact takeFrame_late_iff f c

/-- Some phase is marked. -/
theorem exists_phase_iff (b : PerPhase Bool) : (b.a || b.b || b.c) = true ↔ ∃ q, b.get q = true := by
  rw [Bool.or_eq_true, Bool.or_eq_true]
  constructor
  · rintro ((h | h) | h)
    · exact ⟨.a, h⟩
    · exact ⟨.b, h⟩
    · exact ⟨.c, h⟩
  · rintro ⟨q, h⟩
    cases q with
    | a => exact .inl (.inl h)
    | b => exact .inl (.inr h)
    | c => exact .inr h

/-- The flags of a frame before its parts in a free order. -/
theorem flagIsSet_frameCore (f : FrameInfo) (n : Nat) (u : State) (x : Flag) :
    flagIsSet (frameCore f n u).flags x = true ↔
      ((flagIsSet u.flags x = true ∨ (x = .startLate ∧ anyLate (takeUpTo f n u.cx.set) = true)) ∨
        (x = .gainSat ∧
          ∃ q, ((rawOutputs (contributions f n u.cx.set) f.theta (framePrep f n u)).get q).gainSat = true)) ∨
      (x = .sumSat ∧
        ∃ q, ((rawOutputs (contributions f n u.cx.set) f.theta (framePrep f n u)).get q).sumSat = true) := by
  have hprep : flagIsSet (framePrep f n u).flags x = true ↔
      flagIsSet u.flags x = true ∨ (x = .startLate ∧ anyLate (takeUpTo f n u.cx.set) = true) := by
    have hbase : (if f.boundary = true then applyPendingBase u else u).flags = u.flags ∧
        (if f.boundary = true then applyPendingBase u else u).cx = u.cx := by
      obtain ⟨hcx, -, -, hflags⟩ := applyPendingBase_rest u
      split
      · exact ⟨hflags, hcx⟩
      · exact ⟨rfl, rfl⟩
    obtain ⟨hflags, hcx⟩ := hbase
    rw [← hflags, ← hcx]
    exact flagIsSet_setFlagIf _ _ _ _
  have hcore : (frameCore f n u).flags = (saturationFlags
      (rawOutputs (contributions f n u.cx.set) f.theta (framePrep f n u)) (framePrep f n u)).flags := rfl
  rw [← hprep, hcore]
  generalize rawOutputs (contributions f n u.cx.set) f.theta (framePrep f n u) = raw
  have hgain : (∃ q, (raw.get q).gainSat = true) ↔ (raw.a.gainSat || raw.b.gainSat || raw.c.gainSat) = true := by
    refine Iff.trans (exists_congr fun q => ?_) (exists_phase_iff (raw.map (·.gainSat))).symm
    rw [get_map]
  have hsum : (∃ q, (raw.get q).sumSat = true) ↔ (raw.a.sumSat || raw.b.sumSat || raw.c.sumSat) = true := by
    refine Iff.trans (exists_congr fun q => ?_) (exists_phase_iff (raw.map (·.sumSat))).symm
    rw [get_map]
  rw [hgain, hsum, ← flagIsSet_setFlagIf, ← flagIsSet_setFlagIf]
  rfl

/-! ### The sticky flags over the parts (R103, R154) -/

theorem limitFlag_sets {acts : Bool} (h : acts = true) (g : Flag) (slew : Bool) (p : Phase) (s : State) :
    flagIsSet (limitFlag acts g slew p s).flags g = true := by
  unfold limitFlag
  rw [if_pos h]
  exact (SetsOnly.raiseIf (F := fun _ => True) trivial _ _ _).stand g (flagIsSet_flagsWith_self s.flags g)

/-- The limits set every flag of a stage that acts. -/
theorem limitFlags_sets {l : PerPhase Limited} {g : Flag} (h : Moved.LimitFlag l g) (s : State) :
    flagIsSet (limitFlags l s).flags g = true := by
  have hone (q : Phase) (t : State) {acts : Bool} (a : Flag) (slew : Bool)
      (ht : flagIsSet t.flags g = true) : flagIsSet (limitFlag acts a slew q t).flags g = true :=
    (Moved.limitFlag (F := fun _ => True) trivial (fun _ => trivial) slew q t).flags.stand g ht
  have hstand (q : Phase) (t : State) (ht : flagIsSet t.flags g = true) :
      flagIsSet (limitFlagsOf l q t).flags g = true := hone q _ _ _ (hone q t _ _ ht)
  have hphase (q : Phase) (hq : (g = .slew q ∧ (l.get q).slewed = true) ∨ (g = .clip q ∧ (l.get q).clipped = true))
      (t : State) : flagIsSet (limitFlagsOf l q t).flags g = true := by
    rcases hq with ⟨rfl, hacts⟩ | ⟨rfl, hacts⟩
    · exact hone q _ _ _ (limitFlag_sets hacts _ _ _ _)
    · exact limitFlag_sets hacts _ _ _ _
  obtain ⟨q, hq⟩ := h
  unfold limitFlags
  cases q with
  | a => exact hstand .c _ (hstand .b _ (hphase .a hq s))
  | b => exact hstand .c _ (hphase .b hq _)
  | c => exact hphase .c hq _

/-- Without news the flags of every stage that acts are set. -/
theorem flags_set_of_no_news {l : PerPhase Limited} {s : State} (h : limitNews l s = false) {g : Flag}
    (hg : Moved.LimitFlag l g) : flagIsSet s.flags g = true := by
  simp only [limitNews, Bool.or_eq_false_iff, Bool.and_eq_false_iff, Bool.not_eq_false'] at h
  have hphase (q : Phase) : ((l.get q).slewed = false ∨ flagIsSet s.flags (.slew q) = true) ∧
      ((l.get q).clipped = false ∨ flagIsSet s.flags (.clip q) = true) := by
    obtain ⟨⟨ha, hb⟩, hc⟩ := h
    cases q with
    | a => exact ha
    | b => exact hb
    | c => exact hc
  obtain ⟨q, ⟨rfl, hacts⟩ | ⟨rfl, hacts⟩⟩ := hg
  · exact (hphase q).1.resolve_left (by rw [hacts]; exact nofun)
  · exact (hphase q).2.resolve_left (by rw [hacts]; exact nofun)

/-- The item is not of another frame's limits. -/
def LimitsAre (l : PerPhase Limited) (x : Item) : Prop := ∀ l', x = .limits l' → l' = l

/-- The flags that the parts of a frame with these limits can set. -/
def PartFlag (l : PerPhase Limited) (g : Flag) : Prop := g = .noticeLost ∨ g = .armSkipped ∨ Moved.LimitFlag l g

theorem limitsAre_of_left {f : FrameInfo} {it : Item} {s : State} (l : PerPhase Limited) :
    ∀ x ∈ (doItem f it s).2, LimitsAre l x := by
  intro x hx l' hl'
  rcases doItem_items f it s x hx with ⟨i, late, rfl⟩ | ⟨head, rfl⟩ <;> cases hl'

theorem limitsAre_frameParts (f : FrameInfo) (n : Nat) (u : State) :
    ∀ x ∈ frameParts f n u, LimitsAre (frameLimits f n u) x := by
  refine forall_frameParts (fun _ _ => nofun) (fun _ _ => nofun) (fun c _ x hx => ?_)
    (fun _ l' h => (Item.limits.inj h).symm) (fun _ => nofun)
  rcases mem_itemsOf hx with ⟨late, rfl, -⟩ | ⟨rfl, -⟩ <;> exact nofun

theorem setsOnly_kept (f : FrameInfo) (v : State) (l : PerPhase Limited) :
    ItemsKeep f (LimitsAre l) (SetsOnly (PartFlag l) v) where
  choice _ _ h := ⟨h.stand, h.other⟩
  item it s hit h := by
    refine h.trans ((Moved.doItem f it s).flags.mono fun g hg => ?_)
    rcases hg with hg | hg | ⟨l', hl', hg⟩
    · exact .inl hg
    · exact .inr (.inl hg)
    · rw [hit l' hl'] at hg
      exact .inr (.inr hg)
  left _ _ _ _ := limitsAre_of_left l

theorem flagsSet_kept (f : FrameInfo) (l : PerPhase Limited) :
    ItemsKeep f (LimitsAre l) (fun t => ∀ g, Moved.LimitFlag l g → flagIsSet t.flags g = true) where
  choice _ _ h := h
  item it s _ h g hg := (Moved.doItem f it s).flags.stand g (h g hg)
  left _ _ _ _ := limitsAre_of_left l

theorem trivial_kept (f : FrameInfo) (l : PerPhase Limited) : ItemsKeep f (LimitsAre l) (fun _ => True) where
  choice _ _ h := h
  item _ _ _ h := h
  left _ _ _ _ := limitsAre_of_left l

/-- The parts of a frame set the flags of the stages that act, and no other flag but ARM_SKIPPED and
NOTICE_LOST. -/
theorem partsRun_flags (f : FrameInfo) (n : Nat) (u : State) :
    SetsOnly (PartFlag (frameLimits f n u)) (frameCore f n u) (partsRun f n u) ∧
      ∀ g, Moved.LimitFlag (frameLimits f n u) g → flagIsSet (partsRun f n u).flags g = true := by
  have hring := count_ringRead_le f n u
  have hlimits := limitsAre_frameParts f n u
  have hsets : SetsOnly (PartFlag (frameLimits f n u)) (frameCore f n u) (partsRun f n u) :=
    (setsOnly_kept f (frameCore f n u) (frameLimits f n u)).runAll hring hlimits (.refl _)
  refine ⟨hsets, ?_⟩
  cases hnews : limitNews (frameLimits f n u) (frameCore f n u) with
  | false => exact fun g hg => hsets.stand g (flags_set_of_no_news hnews hg)
  | true =>
    have hmem : Item.limits (frameLimits f n u) ∈ frameParts f n u := by simp [frameParts, frameItems, hnews]
    have hturn : ∀ t : State, True → ∀ g, Moved.LimitFlag (frameLimits f n u) g →
        flagIsSet (doItem f (.limits (frameLimits f n u)) t).1.flags g = true := fun t _ g hg => limitFlags_sets hg t
    exact runAll_once (trivial_kept f _) (flagsSet_kept f _) (fun _ h => h) hturn (fun t _ => limitsAre_of_left _) hring
      (once_of_count hmem (count_frameParts_of_frame f n u rfl) fun y hy _ => hlimits y hy) trivial

section

variable {f : FrameInfo} {s u : State}

/-- The flags of a frame's work, by the flags after the arrival. -/
theorem flagIsSet_core_tracked (p : Presented) (hT : Tracked f s u) (n : Nat) (x : Flag) :
    flagIsSet (frameCore f n u).flags x = true ↔
      flagIsSet s.flags x = true ∨ (x = .angleReverse ∧ Reversed s (frameWork p f n u)) ∨
        (x = .startLate ∧ StartedLate n s (frameWork p f n u)) ∨
        (x = .gainSat ∧ ∃ q, GainSaturates 16384 ((frameInputs n s (frameWork p f n u)).factors q)) ∨
        (x = .sumSat ∧ ∃ q, (frameInputs n s (frameWork p f n u)).raw q ≠
          (frameInputs n s (frameWork p f n u)).unsaturated q) := by
  have hant := frameWork_ant p f n u
  have hcx : u.cx = s.cx := hT.only.cx
  have htracked : flagIsSet u.flags x = true ↔
      flagIsSet s.flags x = true ∨ (x = .angleReverse ∧ Reversed s (frameWork p f n u)) := by
    rw [hT.flags, flagIsSet_setFlagIf, beq_iff_eq, hT.reverse]
    unfold Reversed
    rw [hant]
  have hlate : anyLate (takeUpTo f n u.cx.set) = true ↔ StartedLate n s (frameWork p f n u) := by
    rw [anyLate_iff, hcx, hT.boundary_eq hant]
    unfold StartedLate
    simp only [hT.crosses_eq hant]
  have hgain (q : Phase) := (rawOutput_given (frameInputs n s (frameWork p f n u)) q).2.1
  have hsum (q : Phase) := (rawOutput_given (frameInputs n s (frameWork p f n u)) q).2.2
  have hraw (q : Phase) := rawOutputs_get p hT n q
  rw [flagIsSet_frameCore, htracked, hlate]
  simp only [hraw]
  have hg : (∃ q, (rawOutput ((frameInputs n s (frameWork p f n u)).took.map given)
      (frameInputs n s (frameWork p f n u)).theta q (s.sau.xHold.get q) (s.par.offset.get q) (s.cw.get q).fold
      (frameInputs n s (frameWork p f n u)).factor).gainSat = true) ↔
        ∃ q, GainSaturates 16384 ((frameInputs n s (frameWork p f n u)).factors q) := exists_congr hgain
  have hs : (∃ q, (rawOutput ((frameInputs n s (frameWork p f n u)).took.map given)
      (frameInputs n s (frameWork p f n u)).theta q (s.sau.xHold.get q) (s.par.offset.get q) (s.cw.get q).fold
      (frameInputs n s (frameWork p f n u)).factor).sumSat = true) ↔
        ∃ q, (frameInputs n s (frameWork p f n u)).raw q ≠ (frameInputs n s (frameWork p f n u)).unsaturated q :=
    exists_congr hsum
  rw [hg, hs]
  simp only [or_assoc]

theorem frameWork_flagsOfFrame (p : Presented) (hT : Tracked f s u) (n : Nat) :
    FlagsOfFrame n s (frameWork p f n u) := by
  obtain ⟨hsets, hacts⟩ := partsRun_flags f n u
  have hcore := flagIsSet_core_tracked p hT n
  have hflags := (frameWork_ends p f n u).flags
  have hinputs (q : Phase) := frameLimits_inputs p hT n q
  have hlimit (g : Flag) : Moved.LimitFlag (frameLimits f n u) g ↔
      ∃ q, (g = .slew q ∧ SlewActs (frameInputs n s (frameWork p f n u)) q) ∨
        (g = .clip q ∧ PeakActs (frameInputs n s (frameWork p f n u)) q) := by
    refine exists_congr fun q => ?_
    obtain ⟨-, hslew, hclip⟩ := hinputs q
    rw [hslew, hclip]
  have hpart (g : Flag) (hlost : g ≠ .noticeLost) (harm : g ≠ .armSkipped) :
      flagIsSet (partsRun f n u).flags g = true ↔
        flagIsSet (frameCore f n u).flags g = true ∨ Moved.LimitFlag (frameLimits f n u) g := by
    refine ⟨fun h => ?_, fun h => h.elim (hsets.stand g) (hacts g)⟩
    by_cases hg : Moved.LimitFlag (frameLimits f n u) g
    · exact .inr hg
    · refine .inl ?_
      rwa [← hsets.other g (fun h => h.elim hlost (fun h => h.elim harm hg))]
  simp only [hcore, hlimit] at hpart
  have hstand {g : Flag} (h : flagIsSet s.flags g = true) : flagIsSet (partsRun f n u).flags g = true :=
    hsets.stand g ((hcore g).2 (.inl h))
  unfold FlagsOfFrame
  rw [hflags]
  refine ⟨fun q => (hpart (.slew q) nofun nofun).trans (by simp),
      fun q => (hpart (.clip q) nofun nofun).trans (by simp),
    (hpart .gainSat nofun nofun).trans (by simp), (hpart .sumSat nofun nofun).trans (by simp),
    (hpart .angleReverse nofun nofun).trans (by simp), (hpart .startLate nofun nofun).trans (by simp),
    fun g _ => hstand, fun g hg => Bool.eq_iff_iff.2 ?_⟩
  rcases hg with rfl | rfl | rfl | rfl | rfl | rfl | rfl | rfl | ⟨q, rfl⟩
  all_goals exact (hpart _ (by simp) (by simp)).trans (by simp)

end

end Sys2Proof.FrameParts

namespace Sys2Proof.FrameParts

open Sys2Proof.Machine Sys2Proof.Safety Sys2Proof.EventDescriptors Sys2Proof.OutputLimits
open Sys2Proof.StepInvariants Sys2Proof.FlagsAndWatch Sys2Proof.FrameEvents
open Sys2Proof.ContextRows Sys2Proof.ChainRows Sys2Proof.SchedulerCommands Sys2Proof.FrameRun
open Sys2Proof.FrameEffects Sys2Proof.FrameContexts

/-! ### Frames on which the limits alone notify (R103, R163) -/

/-- No marker is ARMED. -/
def NoneArmed (s : State) : Prop := ∀ k, k < 4 → (s.mku.markers.get k).state ≠ .armed

theorem NoneArmed.markerHit {s : State} (h : NoneArmed s) (hit : MarkerCond → Bool) {k : Nat} (hk : k < 4) :
    markerHit hit k s = false := by
  unfold Machine.markerHit
  rw [beq_eq_false_iff_ne.2 (h k hk), Bool.false_and]

theorem NoneArmed.anyMarkerHit {s : State} (h : NoneArmed s) (hit : MarkerCond → Bool) :
    anyMarkerHit hit s = false := by
  unfold Machine.anyMarkerHit
  rw [h.markerHit hit (by decide), h.markerHit hit (by decide), h.markerHit hit (by decide),
    h.markerHit hit (by decide)]
  rfl

theorem NoneArmed.fireMarkers {s : State} (h : NoneArmed s) (hit : MarkerCond → Bool) : fireMarkers hit s = s := by
  have hone {k : Nat} (hk : k < 4) : fireIfHit hit k s = s := by
    unfold fireIfHit
    rw [h.markerHit hit hk]
    rfl
  unfold Machine.fireMarkers
  rw [hone (by decide), hone (by decide), hone (by decide), hone (by decide)]

/-- A context that neither notifies nor hands over a chain. -/
def Hushed (c : Ctx) : Prop := c.snap.notify = .off ∧ linksAfter c.snap = false

theorem Hushed.notifies {c : Ctx} (h : Hushed c) : notifiesStart c.snap = false ∧ notifiesEnd c.snap = false := by
  unfold notifiesStart notifiesEnd
  rw [h.1]
  exact ⟨rfl, rfl⟩

theorem contextEnds_of_hushed {c : Ctx} (hc : Hushed c) (aborted : Bool) {s : State} (hs : NoneArmed s) :
    contextEnds c aborted s = s.withCx { s.cx with set := removeCtx s.cx.set c.index } ∧ chainOf c aborted = [] := by
  have hnone : NoneArmed (s.withCx { s.cx with set := removeCtx s.cx.set c.index }) := hs
  have hend := hc.notifies.2
  constructor
  · unfold contextEnds noticeAndFire
    rw [hend]
    dsimp only
    split
    · rfl
    · exact hnone.fireMarkers _
  · unfold chainOf
    rw [hc.2, Bool.and_false]
    rfl

/-- No marker is ARMED, and the contexts of the indices `I` are hushed. -/
structure Quiet (I : Nat → Prop) (s : State) : Prop where
  noneArmed : NoneArmed s
  hushed : ∀ i, I i → ∀ c, findCtx s.cx.set i = some c → Hushed c

/-- The end of a life of a hushed context reaches the set alone. -/
theorem Quiet.lifeEndsNow {I : Nat → Prop} {s : State} (h : Quiet I s) {i : Nat} (hi : I i) :
    lifeEndsNow i s = (s.withCx { s.cx with set := lifeEndedSet i s.cx.set }, []) := by
  unfold Machine.lifeEndsNow lifeEndedSet
  cases hc : findCtx s.cx.set i with
  | none => rfl
  | some c =>
    dsimp only
    cases decideLife c with
    | goesOn c' => rfl
    | ends aborted =>
      obtain ⟨hends, hchain⟩ := contextEnds_of_hushed (h.hushed i hi c hc) aborted h.noneArmed
      dsimp only
      rw [hends, hchain, findCtx_index hc]

/-- The context of an index after the end of its life keeps its descriptor. -/
theorem findCtx_lifeEndedSet_self {i : Nat} {set : List Ctx} {c : Ctx} (h : findCtx (lifeEndedSet i set) i = some c) :
    ∃ e, findCtx set i = some e ∧ c.snap = e.snap := by
  unfold lifeEndedSet at h
  cases he : findCtx set i with
  | none =>
    rw [he] at h
    cases he.symm.trans h
  | some e =>
    rw [he] at h
    dsimp only at h
    refine ⟨e, rfl, ?_⟩
    cases hdecide : decideLife e with
    | goesOn c' =>
      rw [hdecide] at h
      cases (findCtx_replaceCtx he ((decideLife_index hdecide).trans (findCtx_index he))).symm.trans h
      exact decideLife_snap hdecide
    | ends aborted =>
      rw [hdecide] at h
      dsimp only at h
      rw [findCtx_removeCtx, if_pos rfl] at h
      cases h

theorem Quiet.lifeEnded {I : Nat → Prop} {s : State} (h : Quiet I s) (i : Nat) :
    Quiet I (s.withCx { s.cx with set := lifeEndedSet i s.cx.set }) := by
  refine ⟨h.noneArmed, fun j hj c hc => ?_⟩
  rw [State.withCx_cx] at hc
  by_cases hij : j = i
  · subst hij
    obtain ⟨e, he, hsnap⟩ := findCtx_lifeEndedSet_self hc
    have hhushed := h.hushed j hj e he
    unfold Hushed
    rwa [hsnap]
  · rw [findCtx_lifeEndedSet_other _ hij] at hc
    exact h.hushed j hj c hc

theorem Quiet.ofReports {I : Nat → Prop} {s t : State} (h : Quiet I s) (ht : ReportsOnly s t) : Quiet I t := by
  obtain ⟨hnone, hhushed⟩ := h
  unfold NoneArmed at hnone
  rw [← ht.mku] at hnone
  rw [← ht.cx] at hhushed
  exact ⟨hnone, hhushed⟩

/-- The ends of the lives of hushed contexts keep what does not speak of the contexts. -/
theorem quiet_kept (f : FrameInfo) (I : Nat → Prop) {D : State → Prop} (hD : ∀ t x, D t → D (t.withCx x))
    (hchoose : ∀ n t, D t → D (choose n t).2) :
    ItemsKeep f (fun x => ∃ i, I i ∧ x = .lifeEnds i) (fun t => Quiet I t ∧ D t) where
  choice n t h := ⟨⟨h.1.noneArmed, h.1.hushed⟩, hchoose n t h.2⟩
  item it t hit h := by
    obtain ⟨i, hi, rfl⟩ := hit
    rw [doItem, h.1.lifeEndsNow hi]
    exact ⟨h.1.lifeEnded i, hD t _ h.2⟩
  left it t hit h := by
    obtain ⟨i, hi, rfl⟩ := hit
    rw [doItem, h.1.lifeEndsNow hi]
    exact fun _ hx => nomatch hx

/-! ### The notices of the limits -/

/-- Two states that raise the same notices. -/
structure SameReports (a b : State) : Prop where
  rpq : a.rpq = b.rpq
  mask : a.par.notifyMask = b.par.notifyMask
  lost : flagIsSet a.flags .noticeLost = flagIsSet b.flags .noticeLost

theorem SameReports.raise {a b : State} (h : SameReports a b) (n : Notice) : SameReports (raise n a) (raise n b) := by
  obtain ⟨hrpq, hmask, hlost⟩ := h
  unfold Machine.raise
  rw [hrpq, hmask]
  split
  · split
    · exact ⟨rfl, hmask, hlost⟩
    · exact ⟨rfl, hmask, (flagIsSet_flagsWith_self _ _).trans (flagIsSet_flagsWith_self _ _).symm⟩
  · exact ⟨hrpq, hmask, hlost⟩

/-- State `b` has the reports of `a`, and the flags still to come are as in `s`; `t` is the state after the frame. -/
structure Limiting (s t : State) (todo : List Flag) (a b : State) : Prop where
  same : SameReports a b
  cycle : a.ant.cycle = t.ant.cycle
  flags : ∀ g ∈ todo, flagIsSet a.flags g = flagIsSet s.flags g

/-- The notices of a list are raised one after the other. -/
def raiseInOrder (ns : List Notice) (s : State) : State := ns.foldl (fun v n => raise n v) s

theorem SameReports.raiseInOrder {a b : State} (h : SameReports a b) (ns : List Notice) :
    SameReports (FrameParts.raiseInOrder ns a) (FrameParts.raiseInOrder ns b) := by
  induction ns generalizing a b with
  | nil => exact h
  | cons n ns ih => exact ih (h.raise n)

theorem raiseInOrder_append (ns ms : List Notice) (s : State) :
    raiseInOrder (ns ++ ms) s = raiseInOrder ms (raiseInOrder ns s) :=
  List.foldl_append

/-- One stage of one phase. -/
theorem Limiting.limitFlag {s t a b : State} {g : Flag} {todo : List Flag} (h : Limiting s t (g :: todo) a b)
    (hg : g ∉ todo) (hlost : Flag.noticeLost ∉ g :: todo) (acts slew : Bool) (p : Phase) :
    Limiting s t todo (limitFlag acts g slew p a) (raiseInOrder (limitNotice s t acts slew p g) b) := by
  obtain ⟨hsame, hcycle, hflags⟩ := h
  have hbit := hflags g (List.mem_cons_self ..)
  have hne (x : Flag) (hx : x ∈ todo) : x ≠ g := fun hxg => hg (hxg ▸ hx)
  have hset : Limiting s t todo (setFlag g a) b := by
    refine ⟨⟨hsame.rpq, hsame.mask, ?_⟩, hcycle, fun x hx => ?_⟩
    · refine (flagIsSet_flagsWith_other _ fun hx => ?_).trans hsame.lost
      exact hlost (hx ▸ List.mem_cons_self ..)
    · exact (flagIsSet_flagsWith_other _ (hne x hx)).trans (hflags x (List.mem_cons_of_mem _ hx))
  unfold Machine.limitFlag limitNotice
  cases acts with
  | false => exact ⟨hsame, hcycle, fun x hx => hflags x (List.mem_cons_of_mem _ hx)⟩
  | true =>
    rw [if_pos rfl, hbit]
    cases hs : flagIsSet s.flags g with
    | true => exact hset
    | false =>
      rw [if_pos ⟨rfl, rfl⟩, ← hcycle]
      refine ⟨hset.same.raise _, hcycle ▸ congrArg Ant.cycle (raise_only _ _).ant, fun x hx => ?_⟩
      have hxlost : x ≠ .noticeLost := fun h => hlost (h ▸ List.mem_cons_of_mem _ hx)
      exact ((SetsOnly.notice _ _).other x hxlost).trans (hset.flags x hx)

/-- The flags of the limits. -/
def limitFlagList : List Flag := [.slew .a, .clip .a, .slew .b, .clip .b, .slew .c, .clip .c]

/-- The LIMIT notices of a frame with these limits. -/
def noticesOf (s t : State) (l : PerPhase Limited) : List Notice :=
  [Phase.a, Phase.b, Phase.c].flatMap (fun p =>
    limitNotice s t (l.get p).slewed true p (.slew p) ++ limitNotice s t (l.get p).clipped false p (.clip p))

theorem Limiting.limitFlags {s t a b : State} (h : Limiting s t limitFlagList a b) (l : PerPhase Limited) :
    Limiting s t [] (limitFlags l a) (raiseInOrder (noticesOf s t l) b) := by
  have hall : raiseInOrder (noticesOf s t l) b =
      raiseInOrder (limitNotice s t (l.get .c).clipped false .c (.clip .c))
        (raiseInOrder (limitNotice s t (l.get .c).slewed true .c (.slew .c))
          (raiseInOrder (limitNotice s t (l.get .b).clipped false .b (.clip .b))
            (raiseInOrder (limitNotice s t (l.get .b).slewed true .b (.slew .b))
              (raiseInOrder (limitNotice s t (l.get .a).clipped false .a (.clip .a))
                (raiseInOrder (limitNotice s t (l.get .a).slewed true .a (.slew .a)) b))))) := by
    simp only [noticesOf, List.flatMap_cons, List.flatMap_nil, List.append_nil, raiseInOrder_append]
  rw [hall]
  have ha := (h.limitFlag (by decide) (by decide) (l.get .a).slewed true .a).limitFlag (by decide) (by decide)
    (l.get .a).clipped false .a
  have hb := (ha.limitFlag (by decide) (by decide) (l.get .b).slewed true .b).limitFlag (by decide) (by decide)
    (l.get .b).clipped false .b
  exact (hb.limitFlag (by decide) (by decide) (l.get .c).slewed true .c).limitFlag (by decide) (by decide)
    (l.get .c).clipped false .c

/-- Without news no notice is raised. -/
theorem noticesOf_of_no_news {s t v : State} {l : PerPhase Limited} (h : limitNews l v = false)
    (hflags : ∀ g, Moved.LimitFlag l g → flagIsSet v.flags g = flagIsSet s.flags g) : noticesOf s t l = [] := by
  have hnone {acts slew : Bool} {p : Phase} {g : Flag} (hg : acts = true → Moved.LimitFlag l g) :
      limitNotice s t acts slew p g = [] := by
    unfold limitNotice
    refine if_neg fun hyes => ?_
    have hset := flags_set_of_no_news h (hg hyes.1)
    rw [hflags g (hg hyes.1), hyes.2] at hset
    cases hset
  refine List.flatMap_eq_nil_iff.2 fun p _ => ?_
  rw [hnone fun hacts => ⟨p, .inl ⟨rfl, hacts⟩⟩, hnone fun hacts => ⟨p, .inr ⟨rfl, hacts⟩⟩]
  rfl

/-! ### The reports of such a frame -/

section

variable {f : FrameInfo} {s u : State}

theorem noticesOf_inputs (p : Presented) (hT : Tracked f s u) (n : Nat) :
    noticesOf s (frameWork p f n u) (frameLimits f n u) = limitNotices n s (frameWork p f n u) := by
  unfold noticesOf limitNotices
  dsimp only
  refine List.flatMap_congr fun q _ => ?_
  obtain ⟨-, hslew, hclip⟩ := frameLimits_inputs p hT n q
  have hs : ((frameLimits f n u).get q).slewed =
      ((frameInputs n s (frameWork p f n u)).slewed q != (frameInputs n s (frameWork p f n u)).raw q) := by
    rw [Bool.eq_iff_iff, hslew, bne_iff_ne]
    rfl
  have hc : ((frameLimits f n u).get q).clipped =
      ((frameInputs n s (frameWork p f n u)).emitted q != (frameInputs n s (frameWork p f n u)).slewed q) := by
    rw [Bool.eq_iff_iff, hclip, bne_iff_ne]
    rfl
  rw [hs, hc]

/-- The flags of limits and notices are those after the arrival until the parts begin. -/
theorem flagIsSet_core_eq (hT : Tracked f s u) (n : Nat) {g : Flag}
    (hg : g ≠ .angleReverse ∧ g ≠ .startLate ∧ g ≠ .gainSat ∧ g ≠ .sumSat) :
    flagIsSet (frameCore f n u).flags g = flagIsSet s.flags g := by
  obtain ⟨hreverse, hlate, hgain, hsum⟩ := hg
  refine Bool.eq_iff_iff.2 ((flagIsSet_core_tracked .failing hT n g).trans ?_)
  simp [hreverse, hlate, hgain, hsum]

/-- The parts of a frame on which the limits alone notify. -/
theorem quiet_frameParts (p : Presented) (hT : Tracked f s u) (n : Nat)
    (h : OnlyLimitsNotify n s (frameWork p f n u)) :
    Quiet (fun i => ∃ c ∈ s.cx.set.take n, c.index = i) (frameCore f n u) ∧
      ∀ x ∈ frameParts f n u, x ≠ .limits (frameLimits f n u) →
        ∃ i, (∃ c ∈ s.cx.set.take n, c.index = i) ∧ x = .lifeEnds i := by
  obtain ⟨hnone, hhushed, hslot⟩ := h
  have hcx : u.cx = s.cx := hT.only.cx
  have hmku : (frameCore f n u).mku = s.mku := (frameCore_facts f n u).mku.trans hT.only.mku
  have hnone' : NoneArmed (frameCore f n u) := by
    unfold NoneArmed
    rwa [hmku]
  have hquiet : ∀ c ∈ s.cx.set.take n, Hushed (takeFrame f c).1 := by
    intro c hc
    unfold Hushed
    rw [(takeFrame_snap_mark f c).1]
    exact hhushed c hc
  refine ⟨⟨hnone', ?_⟩, ?_⟩
  · rintro i ⟨c, hc, hi⟩ d hd
    rw [(frameCore_facts f n u).cx] at hd
    dsimp only at hd
    rw [hcx, takenSet] at hd
    unfold findCtx at hd
    have hsome : (((s.cx.set.take n).map fun c => (takeFrame f c).1).find? fun e => e.index == i).isSome = true := by
      rw [List.find?_isSome]
      exact ⟨_, List.mem_map_of_mem hc, beq_iff_eq.2 ((takeFrame_index f c).trans hi)⟩
    obtain ⟨e, he⟩ := Option.isSome_iff_exists.1 hsome
    rw [List.find?_append, he, Option.some_or] at hd
    cases hd
    obtain ⟨c', hc', rfl⟩ := List.mem_map.1 (List.mem_of_find?_eq_some he)
    exact hquiet c' hc'
  · refine forall_frameParts (fun hb hocc => ?_) (fun _ hany => ?_) (fun c hc x hx _ => ?_) (fun _ h => absurd rfl h)
      (fun hany => ?_)
    · rw [hT.boundary, decide_eq_true_eq, ← frameWork_ant p f n u] at hb
      obtain ⟨hreads, hsome⟩ := (ringOccupied_frameCore hT n).1 hocc
      rw [← frameWork_ant p f n u] at hsome
      rcases hslot with hsame | hno | hempty
      · exact absurd hsame hb
      · exact absurd hreads hno
      · exact absurd hempty hsome
    · rw [hnone'.anyMarkerHit] at hany
      cases hany
    · rw [hcx] at hc
      rcases mem_itemsOf hx with ⟨late, -, -, hshow⟩ | ⟨rfl, -⟩
      · unfold startShows at hshow
        rw [(hquiet c hc).notifies.1, hnone'.anyMarkerHit] at hshow
        cases hshow
      · exact ⟨c.index, ⟨c, hc, rfl⟩, rfl⟩
    · rw [hnone'.anyMarkerHit] at hany
      cases hany

theorem sameReports_kept (f : FrameInfo) (I : Nat → Prop) (v : State) :
    ItemsKeep f (fun x => ∃ i, I i ∧ x = .lifeEnds i) (fun t => Quiet I t ∧ SameReports t v) :=
  quiet_kept f I (fun _ _ h => ⟨h.rpq, h.mask, h.lost⟩) (fun _ _ h => ⟨h.rpq, h.mask, h.lost⟩)

theorem limiting_kept (f : FrameInfo) (I : Nat → Prop) (s t v : State) :
    ItemsKeep f (fun x => ∃ i, I i ∧ x = .lifeEnds i) (fun w => Quiet I w ∧ Limiting s t limitFlagList w v) :=
  quiet_kept f I (fun _ _ h => ⟨⟨h.same.rpq, h.same.mask, h.same.lost⟩, h.cycle, h.flags⟩)
    (fun _ _ h => ⟨⟨h.same.rpq, h.same.mask, h.same.lost⟩, h.cycle, h.flags⟩)

theorem limitNews_of_mem {n : Nat} {l : PerPhase Limited} (h : Item.limits l ∈ frameParts f n u) :
    limitNews (frameLimits f n u) (frameCore f n u) = true := by
  refine forall_frameParts (Q := fun x => x = .limits l → limitNews (frameLimits f n u) (frameCore f n u) = true)
    (fun _ _ => nofun) (fun _ _ => nofun) (fun c _ x hx hl => ?_) (fun hnews _ => hnews) (fun _ => nofun) _ h rfl
  rcases mem_itemsOf hx with ⟨late, rfl, -⟩ | ⟨rfl, -⟩ <;> cases hl

theorem frameWork_limitsNotified (p : Presented) (hT : Tracked f s u) (n : Nat) :
    LimitsNotified n s (frameWork p f n u) := by
  intro honly
  obtain ⟨hquiet, hothers⟩ := quiet_frameParts p hT n honly
  have hends := frameWork_ends p f n u
  have hcore := frameCore_facts f n u
  have hrpq : (frameCore f n u).rpq = s.rpq := hcore.rpq.trans hT.rpq
  have hpar : (frameCore f n u).par = s.par := hcore.only.par.trans hT.only.par
  have hcycle : (frameCore f n u).ant.cycle = (frameWork p f n u).ant.cycle := by
    rw [frameCore_ant, frameWork_ant]
  have hlimiting : Limiting s (frameWork p f n u) limitFlagList (frameCore f n u) s := by
    refine ⟨⟨hrpq, by rw [hpar], flagIsSet_core_eq hT n (by decide)⟩, hcycle, fun g hg => flagIsSet_core_eq hT n ?_⟩
    revert g
    decide
  refine ⟨raiseInOrder (noticesOf s (frameWork p f n u) (frameLimits f n u)) s,
    by rw [noticesOf_inputs p hT n]; rfl, ?_⟩
  have hgoal : SameReports (partsRun f n u)
      (raiseInOrder (noticesOf s (frameWork p f n u) (frameLimits f n u)) s) := by
    cases hnews : limitNews (frameLimits f n u) (frameCore f n u) with
    | false =>
      have hnil : noticesOf s (frameWork p f n u) (frameLimits f n u) = [] :=
        noticesOf_of_no_news hnews fun g hg =>
          flagIsSet_core_eq hT n (by obtain ⟨q, ⟨rfl, -⟩ | ⟨rfl, -⟩⟩ := hg <;> simp)
      rw [hnil]
      refine ((sameReports_kept f _ s).runAll (count_ringRead_le f n u) (fun x hx => hothers x hx ?_)
        ⟨hquiet, hlimiting.same⟩).2
      rintro rfl
      exact Bool.false_ne_true (hnews.symm.trans (limitNews_of_mem hx))
    | true =>
      have hmem : Item.limits (frameLimits f n u) ∈ frameParts f n u := by simp [frameParts, frameItems, hnews]
      have hturn : ∀ t : State, (Quiet (fun i => ∃ c ∈ s.cx.set.take n, c.index = i) t ∧
          Limiting s (frameWork p f n u) limitFlagList t s) →
          Quiet (fun i => ∃ c ∈ s.cx.set.take n, c.index = i) (doItem f (.limits (frameLimits f n u)) t).1 ∧
            SameReports (doItem f (.limits (frameLimits f n u)) t).1
              (raiseInOrder (noticesOf s (frameWork p f n u) (frameLimits f n u)) s) :=
        fun t ht => ⟨ht.1.ofReports (limitFlags_only (frameLimits f n u) t), (ht.2.limitFlags (frameLimits f n u)).same⟩
      exact (runAll_once (limiting_kept f _ s _ s) (sameReports_kept f _ _) (fun _ h => h) hturn
        (fun _ _ _ hy => by cases hy) (count_ringRead_le f n u)
        (once_of_count hmem (count_frameParts_of_frame f n u rfl) hothers) ⟨hquiet, hlimiting⟩).2
  rw [hends.rpq, hends.flags]
  exact ⟨hgoal.rpq, hgoal.lost⟩

/-- The whole work of a frame, in the words of the statements. -/
theorem frameWorked (p : Presented) (hT : Tracked f s u) (n : Nat) : FrameWorked n s (frameWork p f n u) :=
  ⟨frameWork_planAndRing p hT n, frameWork_ringLaunch p hT n, frameWork_contextsTook p hT n,
    frameWork_samplesEmitted p hT n, frameWork_flagsOfFrame p hT n, frameWork_cycleMarkersTook p hT n,
    frameWork_clipMarkersTook p hT n, frameWork_limitsNotified p hT n⟩

end

end Sys2Proof.FrameParts

namespace Sys2Proof.FrameRows

open Sys2Proof.Machine Sys2Proof.Safety Sys2Proof.EventDescriptors Sys2Proof.OutputLimits
open Sys2Proof.StepInvariants Sys2Proof.LinkRows Sys2Proof.FlagsAndWatch Sys2Proof.FrameEvents
open Sys2Proof.FrameParts

/-! ### The tracker of a presented frame (R3 to R7) -/

theorem trackFrom_ant (thetaP thetaC : Nat) (good : Bool) (a : Ant) :
    (trackFrom thetaP thetaC good a).2 = antCompared thetaP thetaC good a := by
  unfold trackFrom antCompared
  by_cases h : 49152 ≤ thetaP ∧ thetaC < 16384
  · rw [classify_of_boundary h, if_pos h]
    rfl
  · rw [if_neg h]
    by_cases hle : thetaP ≤ thetaC
    · rw [classify_of_advance h hle, if_pos hle]
      rfl
    · rw [classify_of_reversal h (Nat.lt_of_not_le hle), if_neg hle]
      rfl

theorem track_held (a : Ant) : (track .held a).2 = antHeld a := by
  obtain ⟨thetaP, lastStep, cycle, start, step⟩ := a
  cases thetaP with
  | none => rfl
  | some thetaP => exact trackFrom_ant _ _ _ _

theorem track_good_held (theta : Nat) {a : Ant} {thetaP : Nat} (h : a.thetaP = some thetaP) :
    (track (.good theta false) a).2 = antCompared thetaP theta true a := by
  unfold track
  rw [h]
  exact trackFrom_ant _ _ _ _

/-! ### What the work of a frame leaves as the arrival made it -/

theorem handToDout_rest (ws : List Word) (d : Dsr) :
    (handToDout ws d).link = d.link ∧ (handToDout ws d).timer = d.timer ∧
      (handToDout ws d).selfTimer = d.selfTimer ∧ (handToDout ws d).expected = d.expected ∧
      (handToDout ws d).control = d.control ∧ (handToDout ws d).slot = d.slot ∧ (handToDout ws d).din = d.din := by
  unfold handToDout
  split
  · exact ⟨rfl, rfl, rfl, rfl, rfl, rfl, rfl⟩
  · split <;> exact ⟨rfl, rfl, rfl, rfl, rfl, rfl, rfl⟩

/-- What the work of a frame keeps of the state `b` after the arrival, and what it may do to markers and
reports. -/
structure WorkKeeps (b t : State) : Prop where
  edt : t.edt = b.edt
  par : t.par = b.par
  cw : t.cw = b.cw
  sau : t.sau = b.sau
  up : t.up = b.up
  cmx : t.cmx = b.cmx
  pending : t.pending = b.pending
  syncLevel : t.mku.syncLevel = b.mku.syncLevel
  syncCount : t.mku.syncCount = b.mku.syncCount
  marker : ∀ k, Spent (b.mku.markers.get k) (t.mku.markers.get k)
  notices : Notified b t
  link : t.dsr.link = b.dsr.link
  timer : t.dsr.timer = b.dsr.timer
  selfTimer : t.dsr.selfTimer = b.dsr.selfTimer
  expected : t.dsr.expected = b.dsr.expected
  control : t.dsr.control = b.dsr.control
  slot : t.dsr.slot = b.dsr.slot
  din : t.dsr.din = b.dsr.din
  outSeq : t.dsr.outSeq = (b.dsr.outSeq + 1) % 256

/-- The OUTPUT frame that the work of a frame hands to DOUT. -/
def sentFrame (p : Presented) (theta : Nat) (opens : PerPhase Bool) (r : State) : List Word :=
  let held := match p with | .good _ => false | .failing => true | .selfGenerated => true
  let self := match p with | .good _ => false | .failing => false | .selfGenerated => true
  outputFrame r.dsr.outSeq theta opens (muteFlag r) held self r.dsr.control r.lmu.yPrev

theorem frameWork_dsr (p : Presented) (f : FrameInfo) (n : Nat) (u : State) :
    (frameWork p f n u).dsr =
      { handToDout (sentFrame p f.theta (openFlags (contributions f n u.cx.set))
          (endStepIf (f.boundary && ringOccupied (frameCore f n u)) (partsRun f n u))) u.dsr with
        outSeq := (u.dsr.outSeq + 1) % 256 } := by
  have hend (ends : Bool) (r : State) : (endStepIf ends r).dsr = r.dsr := (endStepIf_only ends r).dsr
  have hdsr : (partsRun f n u).dsr = u.dsr :=
    (partsRun_moved f n u).only.dsr.trans (frameCore_facts f n u).only.dsr
  have hwork : (frameWork p f n u).dsr =
      { handToDout (sentFrame p f.theta (openFlags (contributions f n u.cx.set))
          (endStepIf (f.boundary && ringOccupied (frameCore f n u)) (partsRun f n u)))
            (endStepIf (f.boundary && ringOccupied (frameCore f n u)) (partsRun f n u)).dsr with
        outSeq :=
          ((endStepIf (f.boundary && ringOccupied (frameCore f n u)) (partsRun f n u)).dsr.outSeq + 1) % 256 } :=
    rfl
  rw [hwork, hend, hdsr]

section

variable {f : FrameInfo} {b u : State}

theorem workKeeps (p : Presented) (hT : Tracked f b u) (n : Nat) : WorkKeeps b (frameWork p f n u) := by
  have hends := frameWork_ends p f n u
  have hmoved := partsRun_moved f n u
  have hcore := frameCore_facts f n u
  have hmku : (frameCore f n u).mku = b.mku := hcore.mku.trans hT.only.mku
  have hdsr : u.dsr = b.dsr := hT.only.dsr
  obtain ⟨hlink, htimer, hself, hexpected, hcontrol, hslot, hdin⟩ := handToDout_rest
    (sentFrame p f.theta (openFlags (contributions f n u.cx.set))
      (endStepIf (f.boundary && ringOccupied (frameCore f n u)) (partsRun f n u))) b.dsr
  have hwork := frameWork_dsr p f n u
  rw [hdsr] at hwork
  exact
    { edt := hends.edt.trans (hmoved.only.edt.trans (hcore.only.edt.trans hT.only.edt))
      par := hends.par.trans (hmoved.only.par.trans (hcore.only.par.trans hT.only.par))
      cw := hends.cw.trans (hmoved.only.cw.trans (hcore.only.cw.trans hT.only.cw))
      sau := hends.sau.trans (hmoved.only.sau.trans (hcore.only.sau.trans hT.only.sau))
      up := hends.up.trans (hmoved.only.up.trans (hcore.only.up.trans hT.only.up))
      cmx := hends.cmx.trans (hmoved.only.cmx.trans (hcore.only.cmx.trans hT.only.cmx))
      pending := hends.pending.trans (hmoved.only.pending.trans (hcore.only.pending.trans hT.only.pending))
      syncLevel := by rw [hends.mku, hmoved.syncLevel, hmku]
      syncCount := by rw [hends.mku, hmoved.syncCount, hmku]
      marker := fun k => by
        rw [hends.mku, ← hmku]
        exact hmoved.marker k
      notices := (Notified.of_eq (hcore.rpq.trans hT.rpq)).trans (hmoved.notices.trans (.of_eq hends.rpq))
      link := by rw [hwork]; exact hlink
      timer := by rw [hwork]; exact htimer
      selfTimer := by rw [hwork]; exact hself
      expected := by rw [hwork]; exact hexpected
      control := by rw [hwork]; exact hcontrol
      slot := by rw [hwork]; exact hslot
      din := by rw [hwork]; exact hdin
      outSeq := by rw [hwork] }

end

/-! ### A frame without a command in the executor -/

/-- A frame that no command completes on: its work from the arrival. -/
theorem presentFrame_facts (p : Presented) {s : State} (h : NoCommand s) :
    FrameWorked s.cx.set.length (dsrArrival p s) (presentFrame p s) ∧
      WorkKeeps (dsrArrival p s) (presentFrame p s) ∧
      (presentFrame p s).ant = (track (shownAs p s) (dsrArrival p s).ant).2 := by
  have hT := tracked_trackFrame (shownAs p s) (dsrArrival p s)
  rw [SampleComputation.presentFrame_of_noCommand p h]
  exact ⟨frameWorked p hT _, workKeeps p hT _,
    (frameWork_ant _ _ _ _).trans (SampleComputation.trackFrame_only (shownAs p s) (dsrArrival p s)).ant⟩

theorem seqGap_iff (x : Sample) (d : Dsr) :
    seqGap x d = true ↔ d.link = .up ∧ ∃ e, d.expected = some e ∧ e ≠ x.seq := by
  unfold seqGap
  rw [Bool.and_eq_true, beq_iff_eq]
  refine and_congr_right fun _ => ?_
  cases d.expected with
  | none => exact iff_of_false nofun fun ⟨e, he, _⟩ => nomatch he
  | some e =>
    rw [bne_iff_ne]
    exact ⟨fun h => ⟨e, rfl, h⟩, fun ⟨e', he', h⟩ => Option.some.inj he' ▸ h⟩

/-- SEQ_GAP after the arrival of a good SAMPLE frame (R134). -/
theorem flagIsSet_goodArrival_seqGap (x : Sample) (s : State) :
    flagIsSet (goodArrival x s).flags .seqGap = true ↔
      flagIsSet s.flags .seqGap = true ∨ (s.dsr.link = .up ∧ ∃ e, s.dsr.expected = some e ∧ e ≠ x.seq) := by
  rw [← seqGap_iff]
  have hraise : SetsOnly (fun g => g = .noticeLost) ((setFlagIf (seqGap x s.dsr) .seqGap s).withDsr (goodDsr x s.dsr))
      (raiseIf (s.dsr.link == .lost true) (.link false true)
        ((setFlagIf (seqGap x s.dsr) .seqGap s).withDsr (goodDsr x s.dsr))) :=
    .raiseIf (F := fun g => g = .noticeLost) rfl _ _ _
  have hother : flagIsSet (goodArrival x s).flags .seqGap =
      flagIsSet (setFlagIf (seqGap x s.dsr) .seqGap s).flags .seqGap :=
    hraise.other .seqGap nofun
  rw [hother, flagIsSet_setFlagIf]
  exact or_congr_right (and_iff_right rfl)

/-- Settles O16: the arrival's share, the tracker's table and the work of the frame, each by its own lemma. -/
theorem goodSampleFrameMovesTheAngleAndTheReceiver : Obligations.GoodSampleFrameMovesTheAngleAndTheReceiver := by
  intro ws s hframe hnone
  obtain ⟨hworked, hkeeps, hant⟩ := presentFrame_facts (.good (readSample ws)) hnone
  have harrival : ReportsOnly ((s.withDsr (goodDsr (readSample ws) s.dsr)).withSau ⟨(readSample ws).x⟩)
      (dsrArrival (.good (readSample ws)) s) := SampleComputation.goodArrival_only (readSample ws) s
  have hdsr : (dsrArrival (.good (readSample ws)) s).dsr = goodDsr (readSample ws) s.dsr := harrival.dsr
  have hsau : (presentFrame (.good (readSample ws)) s).sau = ⟨(readSample ws).x⟩ := hkeeps.sau.trans harrival.sau
  have hmku : (dsrArrival (.good (readSample ws)) s).mku = s.mku := harrival.mku
  have hfirst : (readSample ws).seq = headerSub (ws.headD 0) := by cases ws <;> rfl
  have hgap : flagIsSet (presentFrame (.good (readSample ws)) s).flags .seqGap = true ↔
      flagIsSet s.flags .seqGap = true ∨
        (s.dsr.link = .up ∧ ∃ e, s.dsr.expected = some e ∧ e ≠ headerSub (ws.headD 0)) := by
    obtain ⟨-, -, -, -, ⟨-, -, -, -, -, -, -, hother⟩, -⟩ := hworked
    rw [hother .seqGap (.inr (.inr (.inl rfl))), ← hfirst]
    exact flagIsSet_goodArrival_seqGap (readSample ws) s
  have hshown : (presentFrame (.good (readSample ws)) s).ant =
      (track (.good (hi16 (ws.getD 1 0)) (s.dsr.link != .up)) s.ant).2 := by
    rw [hant, harrival.ant]
    rfl
  refine ⟨_, SampleComputation.exec_sampleFrame_good hframe, fun hlost => ⟨?_, ?_, ?_⟩,
    fun hup => ⟨fun thetaP hp => ?_, ?_, hgap.trans (or_congr_right (and_iff_right hup))⟩, ?_⟩
  · rw [hshown, bne_iff_ne.2 hlost]
    rfl
  · rw [hkeeps.selfTimer, hdsr]
    exact if_neg hlost
  · exact Bool.eq_iff_iff.2 (hgap.trans (or_iff_left fun h => hlost h.1))
  · rw [hshown, hup]
    exact track_good_held _ hp
  · rw [hkeeps.selfTimer, hdsr]
    exact if_pos hup
  · obtain ⟨-, -, -, hdin⟩ := hframe
    refine ⟨?_, ?_, ?_, ?_, ?_, ?_, ?_, ?_, hworked, hkeeps.edt.trans harrival.edt, hkeeps.par.trans harrival.par,
      hkeeps.cw.trans harrival.cw, hkeeps.up.trans harrival.up, hkeeps.cmx.trans harrival.cmx,
      hkeeps.syncLevel.trans (congrArg Mku.syncLevel hmku), hkeeps.syncCount.trans (congrArg Mku.syncCount hmku), ?_,
      ?_,
      hkeeps.pending.trans harrival.pending⟩
    · rw [hkeeps.link, hdsr]
      rfl
    · rw [hkeeps.timer, hdsr]
      rfl
    · rw [hkeeps.expected, hdsr, ← hfirst]
      rfl
    · rw [hkeeps.control, hdsr]
      rfl
    · rw [hkeeps.outSeq, hdsr]
      rfl
    · rw [hsau]
      rfl
    · rw [hsau]
      rfl
    · rw [hsau]
      rfl
    · rw [hkeeps.slot, hdsr]
      rfl
    · rw [hkeeps.din, hdsr]
      exact hdin

/-- Settles O17: the arrival's share of a failing frame, the tracker's extrapolation and the work of the frame. -/
theorem failingSampleFrameIsExtrapolated : Obligations.FailingSampleFrameIsExtrapolated := by
  intro ws s hframe htype hnone
  obtain ⟨hone, hbad, hdin⟩ := hframe
  obtain ⟨hworked, hkeeps, hant⟩ := presentFrame_facts .failing hnone
  have hexec := exec_sampleFrame hone hdin htype
  rw [hbad] at hexec
  have hcheck : flagIsSet (presentFrame .failing s).flags .sampleCheck = true := by
    obtain ⟨-, -, -, -, ⟨-, -, -, -, -, -, -, hother⟩, -⟩ := hworked
    rw [hother .sampleCheck (.inl rfl)]
    exact flagIsSet_flagsWith_self _ _
  exact ⟨_, hexec, hant.trans (track_held s.ant), hcheck, hkeeps.sau, hkeeps.expected, hkeeps.control, hkeeps.link,
    hkeeps.timer, hkeeps.selfTimer, hkeeps.outSeq, hworked, hkeeps.edt, hkeeps.par, hkeeps.cw, hkeeps.up, hkeeps.cmx,
    hkeeps.syncLevel, hkeeps.syncCount, hkeeps.slot, hkeeps.din.trans hdin, hkeeps.pending⟩

/-! ### A self-generated frame -/

/-- The work of a frame does not depend on the receiver's registers. -/
theorem frameWorked_of_withDsr {n : Nat} {s t : State} {d : Dsr} (h : FrameWorked n (s.withDsr d) t) :
    FrameWorked n s t := by
  obtain ⟨hplan, hlaunch, htook, hsamples, hflags, hcycle, hclip, hlimits⟩ := h
  refine ⟨hplan, hlaunch, htook, hsamples, hflags, hcycle, hclip, fun honly => ?_⟩
  obtain ⟨u, hu, hrpq, hlost⟩ := hlimits honly
  have hsame : SameReports (s.withDsr d) s := ⟨rfl, rfl, rfl⟩
  obtain ⟨krpq, -, klost⟩ := hsame.raiseInOrder (limitNotices n s t)
  subst hu
  exact ⟨_, rfl, hrpq.trans krpq, hlost.trans klost⟩

/-- Settles O18: a self-generated frame changes nothing at its arrival but the timer that brought it. -/
theorem selfGeneratedFrameFillsTheSilence : Obligations.SelfGeneratedFrameFillsTheSilence := by
  intro s hlink htimer hnone
  have hnone' : NoCommand (s.withDsr { s.dsr with selfTimer := some Config.cadenceTicks }) := hnone
  obtain ⟨hworked, hkeeps, hant⟩ := presentFrame_facts .selfGenerated hnone'
  exact ⟨_, exec_selfGeneratedFrame hlink htimer, hant.trans (track_held s.ant), hkeeps.sau, hkeeps.selfTimer,
    hkeeps.link,
    hkeeps.timer, hkeeps.expected, hkeeps.control, hkeeps.outSeq, frameWorked_of_withDsr hworked, hkeeps.edt,
    hkeeps.par,
    hkeeps.cw, hkeeps.up, hkeeps.cmx, hkeeps.syncLevel, hkeeps.syncCount, hkeeps.slot, hkeeps.din, hkeeps.pending⟩

end Sys2Proof.FrameRows

namespace Sys2Proof.FrameCommands

open Sys2Proof.Machine Sys2Proof.Safety Sys2Proof.EventDescriptors Sys2Proof.OutputLimits
open Sys2Proof.StepInvariants Sys2Proof.LinkRows Sys2Proof.FlagsAndWatch Sys2Proof.FrameEvents
open Sys2Proof.FrameParts Sys2Proof.FrameRows

/-! ### What a command reaches at the arrival of its frame -/

/-- Contexts and sync qualifier are the same. -/
structure Beside (s t : State) : Prop where
  cx : t.cx = s.cx
  syncLevel : t.mku.syncLevel = s.mku.syncLevel
  syncCount : t.mku.syncCount = s.mku.syncCount

theorem Beside.refl (s : State) : Beside s s := ⟨rfl, rfl, rfl⟩

theorem Beside.ite {c : Prop} [Decidable c] {s t u : State} (ht : Beside s t) (hu : Beside s u) :
    Beside s (if c then t else u) :=
  EventInvariant.ite (P := Beside s) ht hu

theorem Beside.arm {α : Type} {c : Prop} [Decidable c] {s : State} {r q : α × State} (hr : Beside s r.2)
    (hq : Beside s q.2) : Beside s (if c then r else q).2 :=
  EventInvariant.arm_snd (P := Beside s) hr hq

theorem takeFlags_beside (payload : List Word) (s : State) : Beside s (arriveTakeFlags payload s).2 :=
  Beside.arm (.refl s) ⟨rfl, rfl, rfl⟩

theorem writeNumber_beside (i v : Nat) (s : State) : Beside s (writeNumber i v s) := by
  have hbase : Beside s (writePlanBase v s) := Beside.ite ⟨rfl, rfl, rfl⟩ ⟨rfl, rfl, rfl⟩
  unfold writeNumber
  refine Beside.ite ⟨rfl, rfl, rfl⟩ (Beside.ite ⟨rfl, rfl, rfl⟩ ?_)
  refine Beside.ite ⟨rfl, rfl, rfl⟩ (Beside.ite hbase ?_)
  refine Beside.ite ⟨rfl, rfl, rfl⟩ (Beside.ite ⟨rfl, rfl, rfl⟩ ?_)
  refine Beside.ite ⟨rfl, rfl, rfl⟩ (Beside.ite ⟨rfl, rfl, rfl⟩ ?_)
  exact Beside.ite ⟨rfl, rfl, rfl⟩ (.refl s)

theorem setParam_beside (payload : List Word) (s : State) : Beside s (arriveSetParam payload s).2 := by
  unfold arriveSetParam Machine.setParamTo
  refine Beside.arm (.refl s) (Beside.arm ?_ (Beside.arm ?_
    (Beside.arm ?_ (Beside.arm (Beside.arm (.refl s) ⟨rfl, rfl, rfl⟩) ?_))))
  · split
    · exact Beside.ite (.refl s) ⟨rfl, rfl, rfl⟩
    · exact .refl s
  · split <;> exact ⟨rfl, rfl, rfl⟩
  · unfold writeSyncOffset
    split <;> exact ⟨rfl, rfl, rfl⟩
  · split
    · exact writeNumber_beside _ _ s
    · exact .refl s

theorem writeDesc_beside (payload : List Word) (s : State) : Beside s (arriveWriteDesc payload s).2 := by
  refine Beside.arm (.refl s) (Beside.arm ⟨rfl, rfl, rfl⟩ ?_)
  split <;> exact ⟨rfl, rfl, rfl⟩

theorem eraseDesc_beside (payload : List Word) (s : State) : Beside s (arriveEraseDesc payload s).2 :=
  Beside.arm (.refl s) (Beside.arm ⟨rfl, rfl, rfl⟩ ⟨rfl, rfl, rfl⟩)

theorem writeSlots_beside (payload : List Word) (s : State) : Beside s (arriveWriteSlots payload s).2 := by
  refine Beside.arm ?_ (.refl s)
  split <;> exact ⟨rfl, rfl, rfl⟩

theorem setMarker_beside (payload : List Word) (s : State) : Beside s (arriveSetMarker payload s).2 := by
  refine Beside.arm (.refl s) ?_
  split <;> exact ⟨rfl, rfl, rfl⟩

theorem clearFault_beside (s : State) : Beside s (arriveClearFault s).2 :=
  Beside.arm (Beside.arm ⟨rfl, rfl, rfl⟩ (.refl s)) ⟨rfl, rfl, rfl⟩

theorem run_beside (s : State) : Beside s (arriveRun s).2 := Beside.arm (.refl s) ⟨rfl, rfl, rfl⟩

theorem step_beside (s : State) : Beside s (arriveStep s).2 := Beside.arm ⟨rfl, rfl, rfl⟩ (.refl s)

theorem setCycle_beside (payload : List Word) (s : State) : Beside s (arriveSetCycle payload s).2 :=
  Beside.arm ⟨rfl, rfl, rfl⟩ (.refl s)

/-- A property of what a command does to the state, by the commands that write the set and those that do not. -/
theorem commandArrives_cases {R : (State → State) → Prop} (hbeside : ∀ E : State → State, (∀ s, Beside s (E s)) → R E)
    (hreset : R fun s => (arriveResetEngine s).2) (hhalt : R fun s => (arriveHalt s).2)
    (habort : R fun s => (arriveAbort s).2) (harm : ∀ payload, R fun s => (arriveArm payload s).2.2) (c : Cmd) :
    R fun s => (commandArrives c s).2 := by
  have hnone : R fun s => s := hbeside _ .refl
  have harmOf {p : Prop} [Decidable p] {A B : State → Answer × State} (hA : R fun s => (A s).2)
      (hB : R fun s => (B s).2) : R fun s => (if p then A s else B s).2 := by
    by_cases h : p
    · simpa only [if_pos h] using hA
    · simpa only [if_neg h] using hB
  have hrule : R fun s => (ownRule c s).2 := by
    unfold Machine.ownRule
    refine harmOf hnone (harmOf hnone (harmOf (hbeside _ (takeFlags_beside _)) (harmOf hnone ?_)))
    refine harmOf (hbeside _ (setParam_beside _)) (harmOf hreset ?_)
    refine harmOf (hbeside _ (writeDesc_beside _)) (harmOf hnone (harmOf (hbeside _ (eraseDesc_beside _)) ?_))
    refine harmOf (hbeside _ (writeSlots_beside _)) (harmOf hnone ?_)
    refine harmOf (hbeside _ run_beside) (harmOf (hbeside _ step_beside) (harmOf hhalt (harmOf habort ?_)))
    refine harmOf (hbeside _ (setCycle_beside _)) (harmOf (harm _) ?_)
    exact harmOf (hbeside _ clearFault_beside) (harmOf hnone
      (harmOf (hbeside _ (setMarker_beside _)) (harmOf hnone hnone)))
  unfold Machine.commandArrives
  cases requiredLength c.code c.payload with
  | none => exact hnone
  | some n => exact harmOf hrule hnone

/-! ### The commands that write the set -/

theorem raiseAll_beside (ns : List Notice) (s : State) : Beside s (Machine.raiseAll ns s) := by
  have h := raiseAll_only ns s
  exact ⟨h.cx, by rw [h.mku], by rw [h.mku]⟩

/-- The sync qualifier is the same. -/
def SyncStands (s t : State) : Prop := t.mku.syncLevel = s.mku.syncLevel ∧ t.mku.syncCount = s.mku.syncCount

theorem commandArrives_syncStands (c : Cmd) (s : State) : SyncStands s (commandArrives c s).2 := by
  have harm {α : Type} {p : Prop} [Decidable p] {t : State} {r q : α × State} (hr : SyncStands t r.2)
      (hq : SyncStands t q.2) : SyncStands t (if p then r else q).2 :=
    EventInvariant.arm_snd (P := SyncStands t) hr hq
  have hall := commandArrives_cases (R := fun E => ∀ t, SyncStands t (E t))
    (fun E hE t => ⟨(hE t).syncLevel, (hE t).syncCount⟩) (fun t => harm ⟨rfl, rfl⟩ ⟨rfl, rfl⟩)
    (fun t => harm ⟨rfl, rfl⟩ ⟨rfl, rfl⟩) (fun t => ?_) (fun payload t => ?_) c
  · exact hall s
  · refine harm ⟨rfl, rfl⟩ ?_
    have h := raiseAll_beside (abortNotices t.cx.set t.ant.cycle)
      ((t.withSch { t.sch with state := .halted }).withCx { t.cx with set := t.cx.set.filterMap abortCtx })
    exact ⟨h.syncLevel, h.syncCount⟩
  · have hoffer (l : List Nat) : SyncStands t (offerEntries .command l t).1 := by
      have h : Moved (fun _ => True) t (offerEntries .command l t).1 := .offerEntries ⟨trivial, trivial⟩ .command l t
      exact ⟨h.syncLevel, h.syncCount⟩
    unfold arriveArm
    dsimp only
    split
    · exact ⟨rfl, rfl⟩
    · split
      · exact ⟨rfl, rfl⟩
      · split
        · exact ⟨rfl, rfl⟩
        · exact ⟨rfl, rfl⟩
        · exact hoffer _

/-- Receiver, merge, command channel and waiting commands are the same, and notices alone have been raised. -/
structure ChannelsStand (s t : State) : Prop where
  dsr : t.dsr = s.dsr
  up : t.up = s.up
  cmx : t.cmx = s.cmx
  pending : t.pending = s.pending
  notices : Notified s t

theorem channelsStand_events (s : State) : EventInvariant (ChannelsStand s) where
  quiet h hs := ⟨h.dsr.trans hs.dsr, h.up.trans hs.up, h.cmx.trans hs.cmx, h.pending.trans hs.pending,
    hs.notices.trans (.of_eq h.rpq)⟩
  raise n t hs := by
    have h := raise_only n t
    exact ⟨h.dsr.trans hs.dsr, h.up.trans hs.up, h.cmx.trans hs.cmx, h.pending.trans hs.pending,
      hs.notices.trans (.raise n t)⟩
  sched _ _ _ hs := ⟨hs.dsr, hs.up, hs.cmx, hs.pending, hs.notices⟩
  contexts _ _ _ hs := ⟨hs.dsr, hs.up, hs.cmx, hs.pending, hs.notices⟩
  arm _ _ _ _ _ _ hs := ⟨hs.dsr, hs.up, hs.cmx, hs.pending, hs.notices⟩
  stop _ hs := ⟨hs.dsr, hs.up, hs.cmx, hs.pending, hs.notices⟩
  cycle _ _ _ hs := ⟨hs.dsr, hs.up, hs.cmx, hs.pending, hs.notices⟩

theorem commandArrives_channels (c : Cmd) (s : State) : ChannelsStand s (commandArrives c s).2 :=
  (channelsStand_events s).commandArrives c s ⟨rfl, rfl, rfl, rfl, .of_eq rfl⟩

/-! ### The set after a command's arrival -/

/-- Two states in which a command makes the same set. -/
structure SameSets (s t : State) : Prop where
  cx : t.cx = s.cx
  state : t.sch.state = s.sch.state
  edt : t.edt = s.edt

theorem offered_sameSets {s t : State} (h : SameSets s t) (source : ArmSource) (i : Nat) :
    SameSets (offered source s i) (offered source t i) := by
  obtain ⟨hcx, hstate, hedt⟩ := h
  have hraise (n m : Notice) (a b : State) (hab : SameSets a b) : SameSets (raise n a) (raise m b) := by
    have ha := raise_only n a
    have hb := raise_only m b
    exact ⟨by rw [ha.cx, hb.cx, hab.cx], by rw [ha.sch, hb.sch, hab.state], by rw [ha.edt, hb.edt, hab.edt]⟩
  unfold offered
  rw [hcx, hedt]
  split
  · exact hraise _ _ _ _ ⟨rfl, hstate, rfl⟩
  · split
    · exact hraise _ _ _ _ ⟨rfl, hstate, rfl⟩
    · split
      · exact ⟨hcx, hstate, hedt⟩
      · exact ⟨rfl, hstate, rfl⟩

theorem offerEntries_sameSets {s t : State} (h : SameSets s t) (source : ArmSource) (l : List Nat) :
    SameSets (offerEntries source l s).1 (offerEntries source l t).1 := by
  rw [offerEntries_eq, offerEntries_eq]
  induction l generalizing s t with
  | nil => exact h
  | cons i l ih => exact ih (offered_sameSets h source i)

/-- The set that a command leaves depends on set, Scheduler state and Descriptor Table alone. -/
theorem commandArrives_sameSets (c : Cmd) {s t : State} (h : SameSets s t) :
    (commandArrives c t).2.cx = (commandArrives c s).2.cx := by
  have hall := commandArrives_cases (R := fun E => ∀ s t, SameSets s t → (E t).cx = (E s).cx)
    (fun E hE s t h => by rw [(hE s).cx, (hE t).cx, h.cx]) (fun s t h => ?_) (fun s t h => ?_) (fun s t h => ?_)
    (fun payload s t h => ?_) c
  · exact hall s t h
  · obtain ⟨hcx, hstate, -⟩ := h
    show (arriveResetEngine t).2.cx = (arriveResetEngine s).2.cx
    unfold arriveResetEngine
    rw [hstate]
    split
    · exact hcx
    · show ({ t.cx with set := [] } : Cx) = { s.cx with set := [] }
      rw [hcx]
  · obtain ⟨hcx, hstate, -⟩ := h
    show (arriveHalt t).2.cx = (arriveHalt s).2.cx
    unfold arriveHalt
    rw [hstate]
    split
    · exact hcx
    · show ({ t.cx with set := markHalt t.cx.set } : Cx) = { s.cx with set := markHalt s.cx.set }
      rw [hcx]
  · obtain ⟨hcx, hstate, -⟩ := h
    show (arriveAbort t).2.cx = (arriveAbort s).2.cx
    unfold arriveAbort
    rw [hstate]
    split
    · exact hcx
    · rw [(raiseAll_beside _ _).cx, (raiseAll_beside _ _).cx]
      show ({ t.cx with set := t.cx.set.filterMap abortCtx } : Cx) = { s.cx with set := s.cx.set.filterMap abortCtx }
      rw [hcx]
  · have hwalk : walk t.edt (payload.getD 0 0).toNat = walk s.edt (payload.getD 0 0).toNat := by rw [h.edt]
    unfold arriveArm
    dsimp only
    rw [h.state, hwalk]
    split
    · exact h.cx
    · split
      · exact h.cx
      · split
        · exact h.cx
        · exact h.cx
        · exact (offerEntries_sameSets h .command _).cx

/-- What stands behind the first `n` contexts of a set waits. -/
def NewOnesWait (n : Nat) (set : List Ctx) : Prop := ∀ c ∈ set.drop n, c.life = .wait

theorem newOnesWait_of_length_le {n : Nat} {set : List Ctx} (h : set.length ≤ n) : NewOnesWait n set := by
  unfold NewOnesWait
  rw [List.drop_eq_nil_of_le h]
  exact fun _ hc => nomatch hc

theorem offered_newOnesWait {n : Nat} {s : State} (h : NewOnesWait n s.cx.set) (source : ArmSource) (i : Nat) :
    NewOnesWait n (offered source s i).cx.set := by
  unfold offered
  split
  · rw [(raise_only _ _).cx]
    exact h
  · split
    · rw [(raise_only _ _).cx]
      exact h
    · split
      · exact h
      · next d _ =>
        intro c hc
        have hc' : c ∈ s.cx.set.drop n ++
            [joined i d source ((s.cx.activation + 1) % 65536)].drop (n - s.cx.set.length) := by
          rw [← List.drop_append]
          exact hc
        rcases List.mem_append.1 hc' with hc | hc
        · exact h c hc
        · rw [List.mem_singleton.1 (List.mem_of_mem_drop hc)]
          rfl

theorem commandArrives_newOnesWait (c : Cmd) (s : State) :
    NewOnesWait s.cx.set.length (commandArrives c s).2.cx.set := by
  have hkept {t u : State} (h : u.cx = t.cx) : NewOnesWait t.cx.set.length u.cx.set :=
    newOnesWait_of_length_le (by rw [h])
  have hall := commandArrives_cases (R := fun E => ∀ t, NewOnesWait t.cx.set.length (E t).cx.set)
    (fun E hE t => hkept (hE t).cx) (fun t => ?_) (fun t => ?_) (fun t => ?_) (fun payload t => ?_) c
  · exact hall s
  · show NewOnesWait t.cx.set.length (arriveResetEngine t).2.cx.set
    unfold arriveResetEngine
    split
    · exact hkept rfl
    · exact newOnesWait_of_length_le (Nat.zero_le _)
  · show NewOnesWait t.cx.set.length (arriveHalt t).2.cx.set
    unfold arriveHalt
    split
    · exact hkept rfl
    · exact newOnesWait_of_length_le (Nat.le_of_eq (List.length_map ..))
  · show NewOnesWait t.cx.set.length (arriveAbort t).2.cx.set
    unfold arriveAbort
    split
    · exact hkept rfl
    · rw [(raiseAll_beside _ _).cx]
      exact newOnesWait_of_length_le (List.length_filterMap_le ..)
  · have hoffer (l : List Nat) : NewOnesWait t.cx.set.length (offerEntries .command l t).1.cx.set := by
      have hfold (u : State) (hu : NewOnesWait t.cx.set.length u.cx.set) :
          NewOnesWait t.cx.set.length (l.foldl (offered .command) u).cx.set := by
        induction l generalizing u with
        | nil => exact hu
        | cons i l ih => exact ih _ (offered_newOnesWait hu .command i)
      rw [offerEntries_eq]
      exact hfold t (hkept rfl)
    unfold arriveArm
    dsimp only
    split
    · exact hkept rfl
    · split
      · exact hkept rfl
      · split
        · exact hkept rfl
        · exact hkept rfl
        · exact hoffer _

end Sys2Proof.FrameCommands

namespace Sys2Proof.FrameAnswers

open Sys2Proof.Machine Sys2Proof.Safety Sys2Proof.EventDescriptors Sys2Proof.OutputLimits
open Sys2Proof.StepInvariants Sys2Proof.LinkRows Sys2Proof.FlagsAndWatch Sys2Proof.FrameEvents
open Sys2Proof.FrameParts Sys2Proof.FrameRows Sys2Proof.FrameCommands

/-! ### The DSR's share of an arrival -/

/-- What the DSR's share of an arrival leaves alone. -/
structure ShareKeeps (s t : State) : Prop where
  sets : SameSets s t
  mku : t.mku = s.mku
  up : t.up = s.up
  cmx : t.cmx = s.cmx
  pending : t.pending = s.pending
  outSeq : t.dsr.outSeq = s.dsr.outSeq
  notices : Notified s t

theorem dsrArrival_keeps (p : Presented) (s : State) : ShareKeeps s (dsrArrival p s) := by
  cases p with
  | good x =>
    have h := SampleComputation.goodArrival_only x s
    refine ⟨⟨h.cx, congrArg Sch.state h.sch, h.edt⟩, h.mku, h.up, h.cmx, h.pending,
      (congrArg Dsr.outSeq h.dsr : (goodArrival x s).dsr.outSeq = (goodDsr x s.dsr).outSeq), ?_⟩
    have hgap : (setFlagIf (seqGap x s.dsr) .seqGap s).rpq = s.rpq := setFlagIf_rpq _ _ _
    have hraise (c : Bool) (n : Notice) (t : State) : Notified t (raiseIf c n t) := by
      cases c with
      | true => exact .raise n t
      | false => exact .of_eq rfl
    exact (Notified.of_eq (t := (setFlagIf (seqGap x s.dsr) .seqGap s).withDsr (goodDsr x s.dsr)) hgap).trans
      (hraise _ _ _)
  | failing => exact ⟨⟨rfl, rfl, rfl⟩, rfl, rfl, rfl, rfl, rfl, .of_eq rfl⟩
  | selfGenerated => exact ⟨⟨rfl, rfl, rfl⟩, rfl, rfl, rfl, rfl, rfl, .of_eq rfl⟩

/-! ### Both shares of an arrival -/

/-- The arrival of a frame with the command in the executor: both shares, in an open order. -/
theorem arrival_executing (p : Presented) {s : State} {c : Cmd} (hc : s.cmx.exec = .executing c) :
    ∃ u a b, (u = s ∨ u = { s with freeCount := s.freeCount + 1 }) ∧
      ((a = commandArrives c (dsrArrival p u) ∧ b = a.2) ∨ (a = commandArrives c u ∧ b = dsrArrival p a.2)) ∧
      arrival p s = (b, some (c, a.1)) := by
  have horder : ∃ first u, (u = s ∨ u = { s with freeCount := s.freeCount + 1 }) ∧
      (if arrivalOrderOpen p c s then chooseFirst s else (true, s)) = (first, u) := by
    split
    · exact ⟨_, _, .inr rfl, rfl⟩
    · exact ⟨_, _, .inl rfl, rfl⟩
  obtain ⟨first, u, hu, horder⟩ := horder
  unfold arrival
  rw [hc]
  dsimp only
  rw [horder]
  cases first with
  | true => exact ⟨u, commandArrives c (dsrArrival p u), _, hu, .inl ⟨rfl, rfl⟩, rfl⟩
  | false => exact ⟨u, commandArrives c u, _, hu, .inr ⟨rfl, rfl⟩, rfl⟩

/-- What both shares of an arrival leave alone, in either order. -/
structure ArrivalKeeps (s b : State) : Prop where
  sync : SyncStands s b
  up : b.up = s.up
  cmx : b.cmx = s.cmx
  pending : b.pending = s.pending
  outSeq : b.dsr.outSeq = s.dsr.outSeq
  notices : Notified s b

theorem ArrivalKeeps.trans {s t u : State} (h : ArrivalKeeps s t) (k : ArrivalKeeps t u) : ArrivalKeeps s u :=
  ⟨⟨k.sync.1.trans h.sync.1, k.sync.2.trans h.sync.2⟩, k.up.trans h.up, k.cmx.trans h.cmx, k.pending.trans h.pending,
    k.outSeq.trans h.outSeq, h.notices.trans k.notices⟩

theorem dsrArrival_arrivalKeeps (p : Presented) (s : State) : ArrivalKeeps s (dsrArrival p s) := by
  have h := dsrArrival_keeps p s
  exact ⟨⟨congrArg Mku.syncLevel h.mku, congrArg Mku.syncCount h.mku⟩, h.up, h.cmx, h.pending, h.outSeq, h.notices⟩

theorem commandArrives_arrivalKeeps (c : Cmd) (s : State) : ArrivalKeeps s (commandArrives c s).2 := by
  have h := commandArrives_channels c s
  exact ⟨commandArrives_syncStands c s, h.up, h.cmx, h.pending, congrArg Dsr.outSeq h.dsr, h.notices⟩

theorem arrivalKeeps_of_shares {p : Presented} {c : Cmd} {s u b : State} {a : Answer × State}
    (hu : u = s ∨ u = { s with freeCount := s.freeCount + 1 })
    (h : (a = commandArrives c (dsrArrival p u) ∧ b = a.2) ∨ (a = commandArrives c u ∧ b = dsrArrival p a.2)) :
    ArrivalKeeps s b := by
  have hfree : ArrivalKeeps s u := by
    rcases hu with rfl | rfl <;> exact ⟨⟨rfl, rfl⟩, rfl, rfl, rfl, rfl, .of_eq rfl⟩
  refine hfree.trans ?_
  rcases h with ⟨rfl, rfl⟩ | ⟨rfl, rfl⟩
  · exact (dsrArrival_arrivalKeeps p u).trans (commandArrives_arrivalKeeps c _)
  · exact (commandArrives_arrivalKeeps c u).trans (dsrArrival_arrivalKeeps p _)

/-! ### A frame with a command in the executor (R147 to R151) -/

/-- A frame on which the command in the executor completes: its arrival, its work and the answer. -/
theorem presentFrame_executing (p : Presented) {s : State} {c : Cmd} (hc : s.cmx.exec = .executing c) :
    ∃ u a b w, (u = s ∨ u = { s with freeCount := s.freeCount + 1 }) ∧
      ((a = commandArrives c (dsrArrival p u) ∧ b = a.2) ∨ (a = commandArrives c u ∧ b = dsrArrival p a.2)) ∧
      presentFrame p s = answered c (formAnswer a.1 w).1 (formAnswer a.1 w).2 w ∧
      w = frameWork p (trackFrame (shownAs p s) b).1 s.cx.set.length (trackFrame (shownAs p s) b).2 := by
  obtain ⟨u, a, b, hu, hshares, harrival⟩ := arrival_executing p hc
  refine ⟨u, a, b, _, hu, hshares, ?_, rfl⟩
  unfold presentFrame
  dsimp only
  rw [harrival]
  exact respond_answered c a.1 _

/-- The row presents the frame. -/
theorem exec_of_presents {i : Instr} {p : Presented} {s before : State} (h : Presents i p s before) :
    exec i s = .next (presentFrame p before) := by
  rcases h with ⟨ws, rfl, hone, hdin, htype, rfl, rfl⟩ | ⟨rfl, hlink, htimer, rfl, rfl⟩
  · exact exec_sampleFrame hone hdin htype
  · exact exec_selfGeneratedFrame hlink htimer

/-- What the statements say of the state before, from the state that the frame is presented in. -/
theorem presents_before {i : Instr} {p : Presented} {s before : State} (h : Presents i p s before) :
    before = s.withDsr before.dsr ∧ before.dsr.outSeq = s.dsr.outSeq ∧ shownAs p before = shownAs p s := by
  rcases h with ⟨ws, -, -, -, -, -, rfl⟩ | ⟨-, -, -, rfl, rfl⟩
  · exact ⟨rfl, rfl, rfl⟩
  · exact ⟨rfl, rfl, rfl⟩

/-- Settles O22: the arrival in either order, the work from the state it leaves, and the answer behind it. -/
theorem theTakenCommandIsAnsweredOnTheFrame : Obligations.TheTakenCommandIsAnsweredOnTheFrame := by
  intro i p s before c hpresents hc
  obtain ⟨hbefore, houtSeq, hshown⟩ := presents_before hpresents
  have hc' : before.cmx.exec = .executing c := by
    rw [hbefore]
    exact hc
  have hset : before.cx.set.length = s.cx.set.length := by rw [hbefore]; rfl
  obtain ⟨u, a, b, w, hu, hshares, hpresent, hw⟩ := presentFrame_executing p hc'
  rw [hshown, hset] at hw
  have hkeeps := arrivalKeeps_of_shares hu hshares
  have hT := tracked_trackFrame (shownAs p s) b
  have hwork : WorkKeeps b w := hw ▸ workKeeps p hT s.cx.set.length
  have hworked : FrameWorked s.cx.set.length b w := hw ▸ frameWorked p hT s.cx.set.length
  have hant : w.ant = (track (shownAs p s) b.ant).2 := by
    rw [hw]
    exact (frameWork_ant _ _ _ _).trans (SampleComputation.trackFrame_only (shownAs p s) b).ant
  obtain ⟨hqueue, hdrop⟩ := (hkeeps.notices.trans hwork.notices).queue_joined
  rw [hbefore] at hqueue hdrop
  refine ⟨u, a, b, w, hu, hshares, (exec_of_presents hpresents).trans (congrArg Host.Outcome.next hpresent),
    hworked, hant,
    hwork.edt, hwork.par, hwork.cw, hwork.sau, ?_, hwork.link, hwork.timer, hwork.selfTimer, hwork.expected,
    hwork.control, ?_, fun k _ => (hwork.marker k).imp_right And.right, ?_, ?_, ?_, ?_, hqueue, hdrop⟩
  · rw [hwork.up, hkeeps.up, hbefore]
    rfl
  · rw [hwork.outSeq, hkeeps.outSeq, houtSeq]
  · rw [hwork.syncLevel, hkeeps.sync.1, hbefore]
    rfl
  · rw [hwork.syncCount, hkeeps.sync.2, hbefore]
    rfl
  · rw [hwork.cmx, hkeeps.cmx, hbefore]
    rfl
  · rw [hwork.pending, hkeeps.pending, hbefore]
    rfl

end Sys2Proof.FrameAnswers

namespace Sys2Proof.FrameOutputs

open Sys2Proof.Machine Sys2Proof.Safety Sys2Proof.EventDescriptors Sys2Proof.OutputLimits
open Sys2Proof.StepInvariants Sys2Proof.LinkRows Sys2Proof.FlagsAndWatch Sys2Proof.FrameEvents
open Sys2Proof.FrameParts Sys2Proof.FrameRows Sys2Proof.FrameCommands Sys2Proof.FrameAnswers

/-! ### The receiver and the set after the arrival -/

/-- The receiver's registers after the DSR's share of an arrival. -/
def shareDsr (p : Presented) (d : Dsr) : Dsr :=
  match p with
  | .good x => goodDsr x d
  | .failing => failingDsr d
  | .selfGenerated => d

theorem dsrArrival_dsr (p : Presented) (s : State) : (dsrArrival p s).dsr = shareDsr p s.dsr := by
  cases p with
  | good x => exact (SampleComputation.goodArrival_only x s).dsr
  | failing => rfl
  | selfGenerated => rfl

/-- What the shares of an arrival make of receiver and set, whatever their order. -/
structure Arrived (p : Presented) (s b : State) : Prop where
  dsr : b.dsr = shareDsr p s.dsr
  set : b.cx.set = setAtArrival s
  newOnes : NewOnesWait s.cx.set.length b.cx.set

theorem setAtArrival_executing {s : State} {c : Cmd} (hc : s.cmx.exec = .executing c) :
    setAtArrival s = (commandArrives c s).2.cx.set := by
  unfold setAtArrival
  rw [hc]

theorem setAtArrival_of_noCommand {s : State} (h : NoCommand s) : setAtArrival s = s.cx.set := by
  unfold setAtArrival
  split
  · next c hc => exact absurd hc (h c)
  · rfl

theorem arrival_arrived (p : Presented) (s : State) : Arrived p s (arrival p s).1 := by
  by_cases h : ∃ c, s.cmx.exec = .executing c
  · obtain ⟨c, hc⟩ := h
    obtain ⟨u, a, b, hu, hshares, harrival⟩ := arrival_executing p hc
    rw [harrival]
    have hfree : SameSets s u ∧ u.dsr = s.dsr := by rcases hu with rfl | rfl <;> exact ⟨⟨rfl, rfl, rfl⟩, rfl⟩
    obtain ⟨hsets, hdsr⟩ := hfree
    have hb : b.cx = (commandArrives c s).2.cx ∧ b.dsr = shareDsr p s.dsr := by
      rcases hshares with ⟨rfl, rfl⟩ | ⟨rfl, rfl⟩
      · have hshare := (dsrArrival_keeps p u).sets
        refine ⟨commandArrives_sameSets c ⟨hshare.cx.trans hsets.cx, hshare.state.trans hsets.state,
          hshare.edt.trans hsets.edt⟩, ?_⟩
        rw [(commandArrives_channels c _).dsr, dsrArrival_dsr, hdsr]
      · refine ⟨(dsrArrival_keeps p _).sets.cx.trans (commandArrives_sameSets c hsets), ?_⟩
        rw [dsrArrival_dsr, (commandArrives_channels c u).dsr, hdsr]
    obtain ⟨hcx, hdsr⟩ := hb
    refine ⟨hdsr, ?_, ?_⟩
    · rw [hcx, setAtArrival_executing hc]
    · rw [hcx]
      exact commandArrives_newOnesWait c s
  · have hnone : NoCommand s := fun c hc => h ⟨c, hc⟩
    have hcx := (dsrArrival_keeps p s).sets.cx
    rw [SampleComputation.arrival_of_noCommand p hnone]
    refine ⟨dsrArrival_dsr p s, ?_, newOnesWait_of_length_le (Nat.le_of_eq ?_)⟩
    · rw [hcx, setAtArrival_of_noCommand hnone]
    · rw [hcx]

/-! ### The OPEN flags (R104) -/

/-- The contexts armed on the frame mark no phase open. -/
theorem any_opens_take {n : Nat} {set : List Ctx} (h : NewOnesWait n set) (f : FrameInfo) (p : Phase) :
    (contributions f n set).any (fun c => c.opens p) =
      set.any (fun c => c.snap.kind == .openCircuit && c.life == .hold && c.snap.phases.getLsbD (phaseBit p)) := by
  have hdrop : (set.drop n).any
      (fun c => c.snap.kind == .openCircuit && c.life == .hold && c.snap.phases.getLsbD (phaseBit p)) = false := by
    rw [List.any_eq_false]
    intro c hc
    rw [h c hc]
    simp
  rw [contributions_eq, List.any_map]
  conv => rhs; rw [← List.take_append_drop n set, List.any_append, hdrop, Bool.or_false]
  rfl

theorem and_bit_ne_zero (m : BitVec 3) :
    (m &&& 1 != 0) = m.getLsbD 0 ∧ (m &&& 2 != 0) = m.getLsbD 1 ∧ (m &&& 4 != 0) = m.getLsbD 2 := by
  revert m
  decide

theorem openFlags_eq_openMarks (f : FrameInfo) {s b : State} (hset : b.cx.set = setAtArrival s)
    (hnew : NewOnesWait s.cx.set.length b.cx.set) :
    openFlags (contributions f s.cx.set.length b.cx.set) = openMarks s := by
  have hflag (p : Phase) := any_opens_take hnew f p
  have hbits (c : Ctx) := and_bit_ne_zero c.snap.phases
  have ha : (fun c : Ctx => c.snap.kind == .openCircuit && c.life == .hold && c.snap.phases &&& 1 != 0) =
      fun c => c.snap.kind == .openCircuit && c.life == .hold && c.snap.phases.getLsbD 0 :=
    funext fun c => by rw [(hbits c).1]
  have hb : (fun c : Ctx => c.snap.kind == .openCircuit && c.life == .hold && c.snap.phases &&& 2 != 0) =
      fun c => c.snap.kind == .openCircuit && c.life == .hold && c.snap.phases.getLsbD 1 :=
    funext fun c => by rw [(hbits c).2.1]
  have hc : (fun c : Ctx => c.snap.kind == .openCircuit && c.life == .hold && c.snap.phases &&& 4 != 0) =
      fun c => c.snap.kind == .openCircuit && c.life == .hold && c.snap.phases.getLsbD 2 :=
    funext fun c => by rw [(hbits c).2.2]
  unfold openMarks
  dsimp only
  rw [ha, hb, hc, ← hset]
  exact congr (congr (congrArg PerPhase.mk (hflag .a)) (hflag .b)) (hflag .c)

/-! ### The OUTPUT frame at DOUT (R136, R138) -/

theorem handToDout_handed (ws : List Word) (d : Dsr) :
    ((handToDout ws d).sending, (handToDout ws d).outList) = handed ws d := by
  unfold handToDout handed
  split
  · next h =>
    rw [if_pos h]
    rfl
  · next h =>
    rw [if_neg h]
    by_cases hroom : d.outList.length < Config.doutCapacity
    · rw [if_pos hroom, if_pos (show d.outList.length < 8 from hroom)]
      rfl
    · rw [if_neg hroom, if_neg (show ¬d.outList.length < 8 from hroom)]

theorem handed_shareDsr (ws : List Word) (p : Presented) (d : Dsr) : handed ws (shareDsr p d) = handed ws d := by
  cases p <;> rfl

/-- The OUTPUT frame of a presented frame is marked HELD. -/
def heldMark (p : Presented) : Bool := match p with | .good _ => false | .failing => true | .selfGenerated => true

/-- The OUTPUT frame of a presented frame is marked SELF. -/
def selfMark (p : Presented) : Bool := match p with | .good _ => false | .failing => false | .selfGenerated => true

theorem respondIfAny_rest (o : Option (Cmd × Answer)) (w : State) :
    (respondIfAny o w).dsr = w.dsr ∧ (respondIfAny o w).ant = w.ant ∧ (respondIfAny o w).lmu = w.lmu ∧
      (respondIfAny o w).sch = w.sch := by
  cases o with
  | none => exact ⟨rfl, rfl, rfl, rfl⟩
  | some r =>
    unfold respondIfAny
    dsimp only
    rw [respond_answered, answered]
    split <;> exact ⟨rfl, rfl, rfl, rfl⟩

/-- A presented frame hands one OUTPUT frame to DOUT. -/
theorem presentFrame_hands (p : Presented) (s : State) :
    (presentFrame p s).dsr.outSeq = (s.dsr.outSeq + 1) % 256 ∧
      (presentFrame p s).dsr.control = (shareDsr p s.dsr).control ∧
      ((presentFrame p s).dsr.sending, (presentFrame p s).dsr.outList) =
        handed
          (outputFrame s.dsr.outSeq ((presentFrame p s).ant.thetaP.getD 0) (openMarks s)
            ((presentFrame p s).lmu.factor == 0 && (presentFrame p s).sch.state == .faulted) (heldMark p) (selfMark p)
            (presentFrame p s).dsr.control (presentFrame p s).lmu.yPrev)
          s.dsr := by
  have harrived := arrival_arrived p s
  have hT := tracked_trackFrame (shownAs p s) (arrival p s).1
  have hpresent : presentFrame p s = respondIfAny (arrival p s).2
      (frameWork p (trackFrame (shownAs p s) (arrival p s).1).1 s.cx.set.length
        (trackFrame (shownAs p s) (arrival p s).1).2) := rfl
  obtain ⟨hdsr, hant, hlmu, hsch⟩ := respondIfAny_rest (arrival p s).2
      (frameWork p (trackFrame (shownAs p s) (arrival p s).1).1 s.cx.set.length
        (trackFrame (shownAs p s) (arrival p s).1).2)
  rw [hpresent, hdsr, hant, hlmu, hsch]
  generalize (arrival p s).1 = b at harrived hT
  generalize hf : (trackFrame (shownAs p s) b).1 = f at hT
  generalize hu : (trackFrame (shownAs p s) b).2 = u at hT
  have hseq : (shareDsr p s.dsr).outSeq = s.dsr.outSeq := by cases p <;> rfl
  have hkeeps := workKeeps p hT s.cx.set.length
  have hset : u.cx.set = setAtArrival s := (congrArg Cx.set hT.only.cx).trans harrived.set
  have hnew : NewOnesWait s.cx.set.length u.cx.set := by
    rw [hT.only.cx]
    exact harrived.newOnes
  have hwork := frameWork_dsr p f s.cx.set.length u
  rw [openFlags_eq_openMarks f hset hnew] at hwork
  have hudsr : u.dsr = shareDsr p s.dsr := hT.only.dsr.trans harrived.dsr
  refine ⟨?_, ?_, ?_⟩
  · rw [hkeeps.outSeq, harrived.dsr, hseq]
  · rw [hkeeps.control, harrived.dsr]
  · have hframe : sentFrame p f.theta (openMarks s)
        (endStepIf (f.boundary && ringOccupied (frameCore f s.cx.set.length u)) (partsRun f s.cx.set.length u)) =
        outputFrame s.dsr.outSeq ((frameWork p f s.cx.set.length u).ant.thetaP.getD 0) (openMarks s)
          (muteFlag (frameWork p f s.cx.set.length u)) (heldMark p) (selfMark p)
          (frameWork p f s.cx.set.length u).dsr.control (frameWork p f s.cx.set.length u).lmu.yPrev := by
      have hrun : (endStepIf (f.boundary && ringOccupied (frameCore f s.cx.set.length u))
          (partsRun f s.cx.set.length u)).dsr = b.dsr :=
        (endStepIf_only _ _).dsr.trans ((partsRun_moved f _ u).only.dsr.trans
          ((frameCore_facts f _ u).only.dsr.trans hT.only.dsr))
      unfold sentFrame
      dsimp only
      rw [hrun, hkeeps.control, hT.theta, frameWork_ant, harrived.dsr, hseq]
      cases p <;> rfl
    have hhanded := handToDout_handed (sentFrame p f.theta (openMarks s)
      (endStepIf (f.boundary && ringOccupied (frameCore f s.cx.set.length u)) (partsRun f s.cx.set.length u))) u.dsr
    rw [hudsr, handed_shareDsr, hframe] at hhanded
    rw [hframe, hudsr] at hwork
    exact (congrArg (fun d : Dsr => (d.sending, d.outList)) hwork).trans hhanded

/-- Settles O19: the frame that DOUT is handed is built from the state after the work, whatever command completed. -/
theorem eachPresentedFrameHandsOverOneOutputFrame : Obligations.EachPresentedFrameHandsOverOneOutputFrame := by
  constructor
  · intro ws s hone hdin htype
    obtain ⟨hseq, -, hhanded⟩ := presentFrame_hands (if dinGood ws then .good (readSample ws) else .failing) s
    refine ⟨_, exec_sampleFrame hone hdin htype, hseq, hhanded.trans ?_⟩
    cases dinGood ws <;> rfl
  · intro s hlink htimer
    have hsets : SameSets s (s.withDsr { s.dsr with selfTimer := some Config.cadenceTicks }) := ⟨rfl, rfl, rfl⟩
    have hopen : openMarks (s.withDsr { s.dsr with selfTimer := some Config.cadenceTicks }) = openMarks s := by
      have hset : setAtArrival (s.withDsr { s.dsr with selfTimer := some Config.cadenceTicks }) = setAtArrival s := by
        by_cases h : ∃ c, s.cmx.exec = .executing c
        · obtain ⟨c, hc⟩ := h
          rw [setAtArrival_executing hc, ← commandArrives_sameSets c hsets]
          exact setAtArrival_executing hc
        · have hnone : NoCommand s := fun c hc => h ⟨c, hc⟩
          rw [setAtArrival_of_noCommand hnone]
          exact setAtArrival_of_noCommand hnone
      unfold openMarks
      rw [hset]
    obtain ⟨hseq, hcontrol, hhanded⟩ :=
      presentFrame_hands .selfGenerated (s.withDsr { s.dsr with selfTimer := some Config.cadenceTicks })
    refine ⟨_, exec_selfGeneratedFrame hlink htimer, hseq, hhanded.trans ?_⟩
    rw [hcontrol, hopen]
    rfl

end Sys2Proof.FrameOutputs
